-- ==== Sys2Proof/Word.lean ====
section
/-! DEFINITION. The one word type of the design: every quantity the RAC moves is one byte wide (R11, R52). -/

namespace Sys2Proof

/-- `u8`, an unsigned 8-bit value (R11). -/
abbrev Byte := BitVec 8

/-- Exactly one bit of the byte is set ("bit" and "flag" as R40 reads them). -/
def Byte.oneBit (b : Byte) : Bool :=
  (List.range 8).any fun k => b == BitVec.ofNat 8 (2 ^ k)

end Sys2Proof
end

