-- ==== Sys2Proof/Config.lean ====
section
/-! DEFINITION. What one RAC fixes for its lifetime (R9, R42): the register map, the power table, the node address, the
poke policy and the poll bound, each with its well-formedness, and the one free value. The values bound by default are in
`Sys2Proof/Machine/Bindings.lean`. -/

namespace Sys2Proof

/-- Register addresses, masks and constants by role (R30), and what every bus frame is built with: the direction bit of the
address byte (R81) and the byte sent in the data phase of a read (`FILL`, R9, R82). -/
structure RegMap where
  dirMask : Byte
  dirWrite : Byte
  dirRead : Byte
  fill : Byte
  aFifo : Byte
  aOpmode : Byte
  modeMask : Byte
  modeStandby : Byte
  modeReceive : Byte
  modeTransmit : Byte
  aModeReady : Byte
  mModeReady : Byte
  aPacketSent : Byte
  mPacketSent : Byte
  aPayloadReady : Byte
  mPayloadReady : Byte
  aIrqFlags : Byte
  vFifoClear : Byte
  aSync : Byte
  aRssi : Byte
  aDioMap : Byte
  vDioMapTx : Byte
  vDioMapRx : Byte
  aPktCfg : Byte
  mRestartRx : Byte
  aPaLevel : Byte
  mStage1 : Byte
  mStage2 : Byte
  mLevel : Byte
  aOcp : Byte
  vOcpOn : Byte
  vOcpOff : Byte
  aBias1 : Byte
  vBias1Normal : Byte
  vBias1Boost : Byte
  aBias2 : Byte
  vBias2Normal : Byte
  vBias2Boost : Byte
  deriving DecidableEq, Repr

/-- Every address field `A_*` of the map (R30). -/
def RegMap.addresses (m : RegMap) : List Byte :=
  [m.aFifo, m.aOpmode, m.aModeReady, m.aPacketSent, m.aPayloadReady, m.aIrqFlags, m.aSync, m.aRssi, m.aDioMap,
   m.aPktCfg, m.aPaLevel, m.aOcp, m.aBias1, m.aBias2]

/-- The direction bit: one bit, and the two directions are that bit and 0 in one order or the other (R81). -/
def RegMap.wfDirection (m : RegMap) : Bool :=
  m.dirMask.oneBit &&
  ((m.dirWrite == m.dirMask && m.dirRead == 0) || (m.dirRead == m.dirMask && m.dirWrite == 0))

/-- The mode field: three adjacent bits, three different codes inside it (R40). -/
def RegMap.wfMode (m : RegMap) : Bool :=
  ((List.range 6).any fun k => m.modeMask == BitVec.ofNat 8 (7 * 2 ^ k)) &&
  [m.modeStandby, m.modeReceive, m.modeTransmit].all (fun c => c &&& ~~~m.modeMask == 0) &&
  m.modeStandby != m.modeReceive && m.modeStandby != m.modeTransmit && m.modeReceive != m.modeTransmit

/-- The one-bit masks and constants (R40). -/
def RegMap.wfBits (m : RegMap) : Bool :=
  [m.mModeReady, m.mPacketSent, m.mPayloadReady, m.mRestartRx, m.mStage1, m.mStage2, m.vFifoClear].all Byte.oneBit

/-- The level register's fields: pairwise disjoint, the level a run of 1 to 6 low bits (R40). -/
def RegMap.wfLevel (m : RegMap) : Bool :=
  m.mStage1 &&& m.mStage2 == 0 && m.mStage1 &&& m.mLevel == 0 && m.mStage2 &&& m.mLevel == 0 &&
  (List.range 6).any fun k => m.mLevel == BitVec.ofNat 8 (2 ^ (k + 1) - 1)

/-- A well-formed register map (R40, R81). -/
def RegMap.wf (m : RegMap) : Bool :=
  m.wfDirection && m.addresses.all (fun a => a &&& m.dirMask == 0) && m.wfMode && m.wfBits && m.wfLevel

/-- One row of the power table (R132). -/
structure PowerRow where
  level : Byte
  useSecondStage : Bool
  useHighPower : Bool
  deriving DecidableEq, Repr

/-- The 23 rows, for -2 to 20 dBm at index dBm + 2 (R132, R134). -/
abbrev PowerTable := Vector PowerRow 23

/-- A well-formed power table: every level within `M_LEVEL`, no row with high power and without the second stage
(R40, R134). -/
def PowerTable.wf (m : RegMap) (t : PowerTable) : Bool :=
  t.toList.all fun r => r.level &&& ~~~m.mLevel == 0 && (!r.useHighPower || r.useSecondStage)

/-- What a discardable register access does on failure (R122). -/
inductive PokePolicy where
  | strict
  | bestEffort
  deriving DecidableEq, Repr

/-- The parameters of the model (R9). The three proofs make an ill-formed map or table and a poll bound of 0
impossible to build: R40's "a model refuses any other" and U20's refusal "at construction" (log 15). `pollLimit` is
`none` for `inf` (R176); `initialPower` and `idlePower` are `INITIAL_POWER` and `IDLE_POWER` in dBm, any integer, since
`PWR` and the table clamp them (R130, R132, R158, R197). -/
structure Params where
  nodeAddr : Byte
  regMap : RegMap
  powerTable : PowerTable
  pokePolicy : PokePolicy
  pollLimit : Option Nat
  initialPower : Int
  idlePower : Int
  regMapWf : regMap.wf = true
  powerTableWf : PowerTable.wf regMap powerTable = true
  pollLimitWf : pollLimit ≠ some 0
  deriving DecidableEq, Repr

/-- FREE VALUE (log 5): what a recipe would be given if `tx_power` were read while it holds no value (R22, U22). No run
from reset reads it there. -/
opaque Config.unsetTxPower : Int

end Sys2Proof
end

