-- ==== Sys2Proof/Machine/Bindings.lean ====
section
/-! DEFINITION. The figures the spec fixes (R9, log 16), the reference values of the parameters R9 gives one for, and the
default bindings `RM_DEFAULT` and `PT_DEFAULT` of 93_implementation_defined.md G1 and G2. PRESUMED: the bindings are general
knowledge of the RFM69 family (log 3). -/

namespace Sys2Proof.Config

/-- `SENTINEL_1` (R9). -/
def sentinel1 : Byte := 0xAA
/-- `SENTINEL_2` (R9). -/
def sentinel2 : Byte := 0x55
/-- `SYNC_ATTEMPTS`: the bound of one sync phase (R9, R154). -/
def syncAttempts : Nat := 15
/-- `T_RESET_HIGH` in microseconds (R9). -/
def tResetHigh : Nat := 100
/-- `T_RESET_SETTLE` in microseconds: 5 milliseconds (R9). -/
def tResetSettle : Nat := 5000
/-- The reference value of `INITIAL_POWER` in dBm (R9, D33). -/
def initialPower : Int := 13
/-- The reference value of `IDLE_POWER` in dBm (R9). -/
def idlePower : Int := -2
/-- `POWER_MIN` in dBm (R9). -/
def powerMin : Int := -2
/-- `POWER_MAX` in dBm (R9). -/
def powerMax : Int := 20
/-- `HEADER_LEN`: bytes the length byte counts besides the payload (R9). -/
def headerLen : Nat := 3
/-- `MAX_PAYLOAD` (R9). -/
def maxPayload : Nat := 252
/-- The value R9 gives for `FILL` (D7). -/
def fill : Byte := 0x00

/-- `RM_DEFAULT` (G1). -/
def rmDefault : RegMap where
  dirMask := 0x80
  dirWrite := 0x80
  dirRead := 0x00
  fill := fill
  aFifo := 0x00
  aOpmode := 0x01
  modeMask := 0x1C
  modeStandby := 0x04
  modeTransmit := 0x0C
  modeReceive := 0x10
  aPaLevel := 0x11
  mStage1 := 0x40
  mStage2 := 0x20
  mLevel := 0x1F
  aOcp := 0x13
  vOcpOn := 0x1A
  vOcpOff := 0x0F
  aRssi := 0x24
  aDioMap := 0x25
  vDioMapTx := 0x00
  vDioMapRx := 0x40
  aModeReady := 0x27
  mModeReady := 0x80
  aPacketSent := 0x28
  mPacketSent := 0x08
  aPayloadReady := 0x28
  mPayloadReady := 0x04
  aIrqFlags := 0x28
  vFifoClear := 0x10
  aSync := 0x2F
  aPktCfg := 0x3D
  mRestartRx := 0x04
  aBias1 := 0x5A
  vBias1Normal := 0x55
  vBias1Boost := 0x5D
  aBias2 := 0x5C
  vBias2Normal := 0x70
  vBias2Boost := 0x7C

/-- A base-tier row (G2). -/
def baseRow (level : Nat) : PowerRow := ⟨BitVec.ofNat 8 level, false, false⟩
/-- A second-stage row (G2). -/
def secondRow (level : Nat) : PowerRow := ⟨BitVec.ofNat 8 level, true, false⟩
/-- A high-power row (G2). -/
def highRow (level : Nat) : PowerRow := ⟨BitVec.ofNat 8 level, true, true⟩

/-- `PT_DEFAULT`, rows -2 to 20 (G2). -/
def ptDefault : PowerTable :=
  #v[baseRow 16, baseRow 17, baseRow 18, baseRow 19, baseRow 20, baseRow 21, baseRow 22, baseRow 23,
     baseRow 24, baseRow 25, baseRow 26, baseRow 27, baseRow 28, baseRow 29, baseRow 30, baseRow 31,
     secondRow 28, secondRow 29, secondRow 30, secondRow 31, highRow 29, highRow 30, highRow 31]

/-- The parameters `State.reset` holds: the default bindings, `strict`, `inf`, and the node address of the spec's test
vectors (log 3). -/
def defaultParams : Params where
  nodeAddr := 0x01
  regMap := rmDefault
  powerTable := ptDefault
  pokePolicy := .strict
  pollLimit := none
  initialPower := initialPower
  idlePower := idlePower
  regMapWf := by decide
  powerTableWf := by decide
  pollLimitWf := by decide

end Sys2Proof.Config
end

