-- ==== Sys2Proof/Syntax.lean ====
section
/-! DEFINITION. The operations: one constructor per row of spec/opcode_table.json. Thirteen commands of port `cmd` (R89),
four bus frame forms of port `bus` (R80) and the FIFO frame (R86). -/

namespace Sys2Proof

/-- The operand of `MODE` (R170, R172). -/
inductive OpMode where
  | standby
  | receive
  | transmit
  deriving DecidableEq, Repr

/-- The operand of `WAITF` (R175). -/
inductive Flag where
  | modeReady
  | packetSent
  deriving DecidableEq, Repr

/-- An operation with its operands. -/
inductive Instr where
  /-- `RD a` (R110). -/
  | rd (a : Byte)
  /-- `WR a, v` (R112). -/
  | wr (a v : Byte)
  /-- `ED a, clr, set` (R114, R91). -/
  | ed (a clr set : Byte)
  /-- `BRD a, n` (R116). -/
  | brd (a n : Byte)
  /-- `BWR a, bytes` (R118). -/
  | bwr (a : Byte) (bytes : List Byte)
  /-- `PWR p`, `p` in two's complement (R130). -/
  | pwr (p : Byte)
  /-- `RSTP` (R150). -/
  | rstp
  /-- `SYNC s` (R152). -/
  | sync (s : Byte)
  /-- `SETUP cfg` (R158). -/
  | setup (cfg : List (Byte × Byte))
  /-- `MODE m` (R170). -/
  | mode (m : OpMode)
  /-- `WAITF f` (R175). -/
  | waitf (f : Flag)
  /-- `SEND dst, payload` (R190). -/
  | send (dst : Byte) (payload : List Byte)
  /-- `RXS` (R210). -/
  | rxs
  /-- Bus frame BUS-R1 at address operand `a` (R82). -/
  | busR1 (a : Byte)
  /-- Bus frame BUS-W1 (R83). -/
  | busW1 (a v : Byte)
  /-- Bus frame BUS-RN of `n` data bytes (R84). -/
  | busRN (a : Byte) (n : Nat)
  /-- Bus frame BUS-WN (R85). -/
  | busWN (a : Byte) (bytes : List Byte)
  /-- FIFO frame: length byte, destination, source, control, payload (R86). -/
  | fifoFrame (len dst src ctl : Byte) (payload : List Byte)
  deriving DecidableEq, Repr

/-- The three things that are encoded as bytes (30_encoding.md). -/
inductive Format where
  | cmd
  | bus
  | fifo
  deriving DecidableEq, Repr

/-- The format an operation is encoded in: the table's `format` column. -/
def Instr.format : Instr → Format
  | .rd _ | .wr _ _ | .ed _ _ _ | .brd _ _ | .bwr _ _ | .pwr _ | .rstp | .sync _ | .setup _ | .mode _ | .waitf _
  | .send _ _ | .rxs => .cmd
  | .busR1 _ | .busW1 _ _ | .busRN _ _ | .busWN _ _ => .bus
  | .fifoFrame _ _ _ _ _ => .fifo

end Sys2Proof
end

