-- ==== Sys2Proof/WellFormed.lean ====
section
/-! DEFINITION. Which operations have an encoding: the counts a count byte can hold (R89), the frame forms as a decoder
names them (R80 to R85), and the length law of the FIFO frame (R86, R87). -/

namespace Sys2Proof

/-- `i` is one of the terms its format encodes. A bus frame names its address with the direction bit clear, since that bit
is the direction's (R81); a burst of one byte is the single form (R84, R85). -/
def Instr.wf (p : Params) : Instr → Bool
  | .rd _ | .wr _ _ | .ed _ _ _ | .brd _ _ | .pwr _ | .rstp | .sync _ | .mode _ | .waitf _ | .rxs => true
  | .bwr _ bytes => decide (bytes.length ≤ 255)
  | .setup cfg => decide (cfg.length ≤ 255)
  | .send _ payload => decide (payload.length ≤ 255)
  | .busR1 a => a &&& p.regMap.dirMask == 0
  | .busW1 a _ => a &&& p.regMap.dirMask == 0
  | .busRN a n => a &&& p.regMap.dirMask == 0 && n != 1
  | .busWN a bytes => a &&& p.regMap.dirMask == 0 && bytes.length != 1
  | .fifoFrame len _ _ _ payload => decide (payload.length ≤ 252) && len.toNat == payload.length + 3

end Sys2Proof
end

