-- ==== Sys2Proof/Decode.lean ====
section
/-! DEFINITION. The encodings of 30_encoding.md: the address byte, the bus frames, the FIFO frame, the commands; a decoder
for each that is total on any bytes and rejects by name, and the encoder. -/

namespace Sys2Proof

/-! ### Bus frames (R80 to R85) -/

/-- The direction of a bus frame (R81). -/
inductive Dir where
  | read
  | write
  deriving DecidableEq, Repr

/-- The value of the direction bit (R81). -/
def dirBits (m : RegMap) : Dir → Byte
  | .read => m.dirRead
  | .write => m.dirWrite

/-- `AddrByte(a, dir)`: the direction bit of the operand is overwritten (R81). -/
def addrByte (m : RegMap) (a : Byte) (d : Dir) : Byte := (a &&& ~~~m.dirMask) ||| dirBits m d

/-- BUS-R1 (R82). -/
def frameR1 (m : RegMap) (a : Byte) : List Byte := [addrByte m a .read, m.fill]

/-- BUS-W1 (R83). -/
def frameW1 (m : RegMap) (a v : Byte) : List Byte := [addrByte m a .write, v]

/-- BUS-RN (R84). -/
def frameRN (m : RegMap) (a : Byte) (n : Nat) : List Byte := addrByte m a .read :: List.replicate n m.fill

/-- BUS-WN (R85). -/
def frameWN (m : RegMap) (a : Byte) (bytes : List Byte) : List Byte := addrByte m a .write :: bytes

/-! ### The FIFO frame (R86, R87) -/

/-- The length byte of a payload of `n` bytes: `n + 3` (R87). -/
def lengthByte (n : Nat) : Byte := BitVec.ofNat 8 (n + Config.headerLen)

/-- The bytes of a FIFO frame in order (R86). -/
def fifoBytes (len dst src ctl : Byte) (payload : List Byte) : List Byte := len :: dst :: src :: ctl :: payload

/-! ### Command opcodes (R89) -/

/-- The thirteen opcodes. -/
inductive Opcode where
  | rd | wr | ed | brd | bwr | pwr | rstp | sync | setup | mode | waitf | send | rxs
  deriving DecidableEq, Repr

/-- The opcode byte (R89). -/
def Opcode.byte : Opcode → Byte
  | .rd => 0x01
  | .wr => 0x02
  | .ed => 0x03
  | .brd => 0x04
  | .bwr => 0x05
  | .pwr => 0x10
  | .rstp => 0x20
  | .sync => 0x21
  | .setup => 0x22
  | .mode => 0x30
  | .waitf => 0x31
  | .send => 0x40
  | .rxs => 0x50

/-- Every opcode, in table order. -/
def Opcode.all : List Opcode := [.rd, .wr, .ed, .brd, .bwr, .pwr, .rstp, .sync, .setup, .mode, .waitf, .send, .rxs]

/-- The opcode a byte stands for; `none` is an illegal opcode (R92). -/
def Opcode.ofByte (b : Byte) : Option Opcode := Opcode.all.find? fun o => o.byte == b

/-- How many operand bytes follow the opcode, told from the opcode and, where there is one, the count byte (R89). -/
def Opcode.operandCount (operands : List Byte) : Opcode → Nat
  | .rd | .pwr | .sync | .mode | .waitf => 1
  | .wr | .brd => 2
  | .ed => 3
  | .rstp | .rxs => 0
  | .bwr | .send => 2 + (operands.getD 1 0).toNat
  | .setup => 1 + 2 * (operands.getD 0 0).toNat

/-! ### Decoding -/

/-- Why bytes are no operation of a format. -/
inductive Reject where
  /-- No byte at all. -/
  | empty
  /-- The opcode byte is not in R89's table (R92). -/
  | illegalOpcode
  /-- The byte count does not match R89 (R92). -/
  | wrongCount
  /-- `MODE` with `m > 2` (R92). -/
  | illegalMode
  /-- `WAITF` with `f > 1` (R92). -/
  | illegalFlag
  /-- A read frame whose data phase is not `FILL` bytes (R82, R84). -/
  | notFill
  /-- Fewer than four bytes, or a length byte that is not the payload's length plus 3 (R86). -/
  | wrongFifoLength
  deriving DecidableEq, Repr

/-- What a decoder answers. -/
inductive Decoded where
  | instr (i : Instr)
  | reject (r : Reject)
  deriving DecidableEq, Repr

/-- The mode selector (R89). -/
def OpMode.ofByte (b : Byte) : Option OpMode :=
  if b = 0 then some .standby else if b = 1 then some .receive else if b = 2 then some .transmit else none

/-- The mode selector's byte (R89). -/
def OpMode.byte : OpMode → Byte
  | .standby => 0
  | .receive => 1
  | .transmit => 2

/-- The flag selector (R89). -/
def Flag.ofByte (b : Byte) : Option Flag :=
  if b = 0 then some .modeReady else if b = 1 then some .packetSent else none

/-- The flag selector's byte (R89), also the info byte of `PollTimeout` (R250). -/
def Flag.byte : Flag → Byte
  | .modeReady => 0
  | .packetSent => 1

/-- The pairs of a Config operand, in order; `none` for an odd number of bytes (R89). -/
def pairsOf : List Byte → Option (List (Byte × Byte))
  | [] => some []
  | [_] => none
  | a :: v :: rest => (pairsOf rest).map ((a, v) :: ·)

/-- The bytes of a Config operand (R89). -/
def bytesOfPairs : List (Byte × Byte) → List Byte
  | [] => []
  | (a, v) :: rest => a :: v :: bytesOfPairs rest

/-- No operand byte (R89). -/
def operands0 (i : Instr) : List Byte → Decoded
  | [] => .instr i
  | _ => .reject .wrongCount

/-- One operand byte (R89). -/
def operands1 (f : Byte → Decoded) : List Byte → Decoded
  | [a] => f a
  | _ => .reject .wrongCount

/-- Two operand bytes (R89). -/
def operands2 (f : Byte → Byte → Instr) : List Byte → Decoded
  | [a, b] => .instr (f a b)
  | _ => .reject .wrongCount

/-- Three operand bytes (R89). -/
def operands3 (f : Byte → Byte → Byte → Instr) : List Byte → Decoded
  | [a, b, c] => .instr (f a b c)
  | _ => .reject .wrongCount

/-- One operand byte, a count byte and so many bytes (R89). -/
def operandsCounted (f : Byte → List Byte → Instr) : List Byte → Decoded
  | a :: n :: bytes => if bytes.length = n.toNat then .instr (f a bytes) else .reject .wrongCount
  | _ => .reject .wrongCount

/-- A count byte and so many pairs (R89). -/
def operandsPairs : List Byte → Decoded
  | k :: rest =>
    match pairsOf rest with
    | some cfg => if cfg.length = k.toNat then .instr (.setup cfg) else .reject .wrongCount
    | none => .reject .wrongCount
  | [] => .reject .wrongCount

/-- The mode selector of `MODE`; above 2 it is illegal (R92). -/
def decodeMode (m : Byte) : Decoded :=
  match OpMode.ofByte m with
  | some m => .instr (.mode m)
  | none => .reject .illegalMode

/-- The flag selector of `WAITF`; above 1 it is illegal (R92). -/
def decodeFlag (f : Byte) : Decoded :=
  match Flag.ofByte f with
  | some f => .instr (.waitf f)
  | none => .reject .illegalFlag

/-- The operands of one opcode (R89); a wrong byte count or selector is rejected (R92). -/
def decodeOperands (operands : List Byte) : Opcode → Decoded
  | .rd => operands1 (fun a => .instr (.rd a)) operands
  | .wr => operands2 .wr operands
  | .ed => operands3 .ed operands
  | .brd => operands2 .brd operands
  | .bwr => operandsCounted .bwr operands
  | .pwr => operands1 (fun p => .instr (.pwr p)) operands
  | .rstp => operands0 .rstp operands
  | .sync => operands1 (fun s => .instr (.sync s)) operands
  | .setup => operandsPairs operands
  | .mode => operands1 decodeMode operands
  | .waitf => operands1 decodeFlag operands
  | .send => operandsCounted .send operands
  | .rxs => operands0 .rxs operands

/-- The command decoder: an opcode byte and the bytes after it (R89, R92). -/
def decodeCmd (op : Byte) (operands : List Byte) : Decoded :=
  match Opcode.ofByte op with
  | some o => decodeOperands operands o
  | none => .reject .illegalOpcode

/-- A bus frame by its direction bit and its length (R80); the address is named with that bit clear (R81). -/
def decodeBus (m : RegMap) : List Byte → Decoded
  | [] => .reject .empty
  | b :: data =>
    let a := b &&& ~~~m.dirMask
    if b &&& m.dirMask = m.dirWrite then
      match data with
      | [v] => .instr (.busW1 a v)
      | _ => .instr (.busWN a data)
    else if data = List.replicate data.length m.fill then
      if data.length = 1 then .instr (.busR1 a) else .instr (.busRN a data.length)
    else .reject .notFill

/-- A FIFO frame (R86). -/
def decodeFifo : List Byte → Decoded
  | len :: dst :: src :: ctl :: payload =>
    if len.toNat = payload.length + Config.headerLen then .instr (.fifoFrame len dst src ctl payload)
    else .reject .wrongFifoLength
  | _ => .reject .wrongFifoLength

/-- The decoder of each format, total on any bytes. -/
def decode (p : Params) : Format → List Byte → Decoded
  | .cmd, [] => .reject .empty
  | .cmd, op :: operands => decodeCmd op operands
  | .bus, bytes => decodeBus p.regMap bytes
  | .fifo, bytes => decodeFifo bytes

/-! ### Encoding -/

/-- The bytes of an operation in its format (R80 to R89). -/
def encode (p : Params) : Instr → List Byte
  | .rd a => [Opcode.rd.byte, a]
  | .wr a v => [Opcode.wr.byte, a, v]
  | .ed a clr set => [Opcode.ed.byte, a, clr, set]
  | .brd a n => [Opcode.brd.byte, a, n]
  | .bwr a bytes => Opcode.bwr.byte :: a :: BitVec.ofNat 8 bytes.length :: bytes
  | .pwr q => [Opcode.pwr.byte, q]
  | .rstp => [Opcode.rstp.byte]
  | .sync s => [Opcode.sync.byte, s]
  | .setup cfg => Opcode.setup.byte :: BitVec.ofNat 8 cfg.length :: bytesOfPairs cfg
  | .mode m => [Opcode.mode.byte, m.byte]
  | .waitf f => [Opcode.waitf.byte, f.byte]
  | .send dst payload => Opcode.send.byte :: dst :: BitVec.ofNat 8 payload.length :: payload
  | .rxs => [Opcode.rxs.byte]
  | .busR1 a => frameR1 p.regMap a
  | .busW1 a v => frameW1 p.regMap a v
  | .busRN a n => frameRN p.regMap a n
  | .busWN a bytes => frameWN p.regMap a bytes
  | .fifoFrame len dst src ctl payload => fifoBytes len dst src ctl payload

/-! ### Words of the opcode table -/

/-- The bytes of a table word, least significant byte first. -/
def wordBytes (nbits w : Nat) : List Byte := (List.range ((nbits + 7) / 8)).map fun i => BitVec.ofNat 8 (w >>> (8 * i))

/-- The first byte of a table word and the bytes after it, zeros above the table's bits up to the longest operation (a
`SETUP` of 255 pairs, 512 bytes). -/
def wordStream (nbits w : Nat) : Byte × List Byte :=
  match wordBytes nbits w with
  | [] => (0, List.replicate 511 0)
  | b :: rest => (b, rest ++ List.replicate 511 0)

/-- The operation a table word stands for: a command where its first byte is a command's opcode, else the shortest bus
frame with that address byte and a data phase, under the default binding. The formats share words, since they travel at
different ports; the command port itself decodes with `decodeCmd` alone (log 10). -/
def decodeTableWord (nbits w : Nat) : Option Instr :=
  let b := (wordStream nbits w).1
  let rest := (wordStream nbits w).2
  let d := match Opcode.ofByte b with
    | some o => decodeCmd b (rest.take (o.operandCount rest))
    | none => decodeBus Config.rmDefault (b :: rest.take 1)
  match d with
  | .instr i => some i
  | .reject _ => none

end Sys2Proof
end

