-- ==== Sys2Proof/Machine/State.lean ====
section
/-! DEFINITION. The state of the RAC (10_state.md), the sequencer's positions (R45), the turns of the agents around it
(R8), what its ports carried, and reset (R47). -/

namespace Sys2Proof.Machine

/-! ### Errors and packets -/

/-- The error kinds of R250 with what their info byte is made of. -/
inductive Err where
  /-- A step's `Transfer` failed; `addr` is `tx[0]` (R251, R120). -/
  | busError (addr : Byte)
  /-- Fifteen attempts without the sentinel (R252). -/
  | notSyncing (sentinel : Byte)
  /-- The Board failed `SetReset(level)` (R253). -/
  | resetLineError (level : Bool)
  /-- `SEND` with more than 252 bytes (R191). -/
  | payloadTooLong
  /-- A received length byte below 3 (R254). -/
  | protocolError (total : Byte)
  /-- `POLL_LIMIT` reads without the flag (R175). -/
  | pollTimeout (flag : Flag)
  /-- `SEND` or `RXS` with `setup_done = 0` (R258). -/
  | notReady
  /-- A command while an operation is in progress (R258). -/
  | busy
  /-- A command R92 calls illegal; `opcode` is its opcode byte. -/
  | illegalCommand (opcode : Byte)
  deriving DecidableEq, Repr

/-- The record delivered at port `pkt` (R44). -/
structure Packet where
  src : Byte
  dst : Byte
  rssi : Int
  payload : List Byte
  deriving DecidableEq, Repr

/-! ### The sequencer's positions (R45) -/

/-- The lines of an edit (R114). -/
inductive EditLine where
  | e1 | e2
  deriving DecidableEq, Repr

/-- The lines of the power recipe (R133). -/
inductive RecipeLine where
  | h1 | h2 | h3 | h4 | n1 | n2 | n3 | n4
  deriving DecidableEq, Repr

/-- The lines of the reset pulse (R150). -/
inductive PulseLine where
  | p1 | p2 | p3 | p4
  deriving DecidableEq, Repr

/-- How the first line of a loop is reached: from above the loop, where the unlabelled lines above it are computed together with
it (R13), or from the loop's end. -/
inductive LoopHead where
  | entered | repeated
  deriving DecidableEq, Repr

/-- The lines of one sync phase (R152). -/
inductive SyncLine where
  | y1 (h : LoopHead)
  | y2
  deriving DecidableEq, Repr

/-- The lines of `SETUP` with those of the operation each calls (R158). -/
inductive SetupLine where
  | s1 (l : PulseLine)
  | s2 (l : SyncLine)
  | s3 (l : SyncLine)
  | s4
  | s5 (l : RecipeLine)
  deriving DecidableEq, Repr

/-- The lines of `SEND` (R190). -/
inductive SendLine where
  | t1 (l : EditLine)
  | t1w (h : LoopHead)
  | t2
  | t3 (l : RecipeLine)
  | t4
  | t5
  | t6 (l : EditLine)
  | t6w (h : LoopHead)
  | t7 (l : EditLine)
  | t7w (h : LoopHead)
  | t7p (l : RecipeLine)
  deriving DecidableEq, Repr

/-- The lines of `RXS` (R210). -/
inductive RxsLine where
  | a0
  | a1
  | a1r (l : EditLine)
  | a2
  | a3 (l : EditLine)
  | a4
  | a5
  | w2
  | l3
  | l4
  | l6
  | l7
  deriving DecidableEq, Repr

/-- A position: the operation in progress with its operands, and the label of its next line (R23, R45). An operation with
one line (`X1`, `M1`'s edit apart, `F1`) needs no label; the first line of a loop carries its `LoopHead`. -/
inductive Pos where
  | rd (a : Byte)
  | wr (a v : Byte)
  | ed (a clr set : Byte) (l : EditLine)
  | brd (a n : Byte)
  | bwr (a : Byte) (bytes : List Byte)
  | pwr (p : Byte) (l : RecipeLine)
  | rstp (l : PulseLine)
  | sync (s : Byte) (l : SyncLine)
  | setup (cfg : List (Byte × Byte)) (l : SetupLine)
  | mode (m : OpMode) (l : EditLine)
  | waitf (f : Flag) (h : LoopHead)
  | send (dst : Byte) (payload : List Byte) (l : SendLine)
  | rxs (l : RxsLine)
  deriving DecidableEq, Repr

/-- `seq` (R23). -/
inductive Seq where
  | idle
  | running (p : Pos)
  deriving DecidableEq, Repr

/-! ### The agents around the sequencer -/

/-- The Board's answer to a `Transfer` (R7). -/
inductive Answer where
  | ok (rx : List Byte)
  | err
  deriving DecidableEq, Repr

/-- One move of one agent (R8, log 1). The first four complete a labelled line of the sequencer; the others are moves of
the arbiter and the host, and `pass`, in which nobody moves. A turn its agent cannot take in the state it falls in passes
without effect. -/
inductive Turn where
  /-- The Board answers the outstanding `Transfer`. -/
  | board (ans : Answer)
  /-- The Board answers the outstanding `SetReset`. -/
  | line (ok : Bool)
  /-- The sequencer takes a line that waits for nobody's answer: the end of a `Hold`, `A0`, or `W2` where it is enabled. -/
  | tick
  /-- The host accepts the packet offered at port `pkt`. -/
  | accept
  /-- `IrqRise`. -/
  | irq
  /-- The host issues a command at port `cmd`: an opcode byte and the bytes after it (R89, log 11). -/
  | cmd (op : Byte) (operands : List Byte)
  /-- Block reset (R290). -/
  | blockReset
  /-- Nobody moves. -/
  | pass
  deriving DecidableEq, Repr

/-- What a port carried (R6, log 12). -/
inductive Event where
  /-- A `Transfer` and its answer; `none` is `Err`. -/
  | transfer (tx : List Byte) (rx : Option (List Byte))
  /-- A `SetReset` and its answer. -/
  | setReset (level : Bool) (ok : Bool)
  /-- A `Hold` of at least so many microseconds (R315). -/
  | hold (micros : Nat)
  /-- A response at port `cmd` (R90). -/
  | response (bytes : List Byte)
  /-- A packet accepted at port `pkt` (R227). -/
  | packet (p : Packet)
  /-- A `Transfer` that block reset left unanswered (R291). -/
  | transferForgotten (tx : List Byte)
  /-- A `SetReset` that block reset left unanswered (R291). -/
  | setResetForgotten (level : Bool)
  deriving DecidableEq, Repr

/-! ### The state -/

/-- The state of the RAC. -/
@[ext]
structure State where
  /-- The parameters, never written (R42, log 3); `NODE_ADDR` among them (R21). -/
  params : Params
  /-- The sequencer position (R23). -/
  seq : Seq
  /-- R24. -/
  setupDone : Bool
  /-- The configured power in dBm, or no value (R22). -/
  txPower : Option Int
  /-- The believed mode, or no value (R25). -/
  modeShadow : Option OpMode
  /-- The arbiter's latch (R26). -/
  evtPending : Bool
  /-- Whether the arbiter runs (R27). -/
  arbEnabled : Bool
  /-- The error slot (R28). -/
  errSlot : Option Err
  /-- Working register of `SYNC` (R29). -/
  attempt : Nat
  /-- Working register of `WAITF` (R29). -/
  polls : Nat
  /-- Working registers of `SEND` (R29). -/
  txDst : Byte
  txPayload : List Byte
  /-- Working registers of `SETUP` (R29). -/
  cfg : List (Byte × Byte)
  cfgI : Nat
  /-- Working registers of `RXS` (R29). -/
  flags : Byte
  rssiRaw : Byte
  rssi : Int
  hTotal : Byte
  hDst : Byte
  hSrc : Byte
  hCtl : Byte
  plen : Int
  rxBuf : List Byte
  pktOut : Packet
  /-- Working register of `ED` (R29). -/
  editOld : Byte
  /-- The model's own: what the Board answered to the last `Transfer`, the pseudocode's `rx` (log 8). -/
  busRx : Option (List Byte)
  /-- The model's own: the turns still to come, oldest first (log 1). -/
  env : List Turn
  /-- The model's own: what the ports carried, oldest first (log 12). -/
  trace : List Event
  deriving DecidableEq, Repr

/-- The state right after block reset (R47). Working registers, which R47 leaves unspecified, hold zero (DESIGN CHOICE,
log 4); the parameters are the default bindings (PRESUMED, log 3); no turn is waiting and no port has carried anything. -/
def State.reset : State where
  params := Config.defaultParams
  seq := .idle
  setupDone := false
  txPower := none
  modeShadow := none
  evtPending := false
  arbEnabled := false
  errSlot := none
  attempt := 0
  polls := 0
  txDst := 0
  txPayload := []
  cfg := []
  cfgI := 0
  flags := 0
  rssiRaw := 0
  rssi := 0
  hTotal := 0
  hDst := 0
  hSrc := 0
  hCtl := 0
  plen := 0
  rxBuf := []
  pktOut := ⟨0, 0, 0, []⟩
  editOld := 0
  busRx := none
  env := []
  trace := []

/-! ### Stops -/

/-- The faults of a step: none. The RAC never halts itself (R263); every error is a response. -/
inductive Fault where
  deriving DecidableEq, Repr

/-- The refusals of a step. -/
inductive Refusal where
  /-- An instruction without a meaning, raised by its arm of `exec`. Safe: nothing is proved of it. No arm raises it. -/
  | notModelled (mnemonic : String)
  deriving DecidableEq, Repr

end Sys2Proof.Machine
end

