-- ==== Sys2Proof/Machine/Operands.lean ====
section
/-! DEFINITION. How operands become bytes and numbers: the edit transforms, the power recipe's values, the sentinel and
mode codes, the RSSI and length arithmetic. -/

namespace Sys2Proof.Machine

/-- `fn(v) = (v & ~clr) | set` (R91). -/
def editFn (clr set v : Byte) : Byte := (v &&& ~~~clr) ||| set

/-- `Code(m)`, already shifted into the mode field (R170, R30). -/
def modeCode (r : RegMap) : OpMode → Byte
  | .standby => r.modeStandby
  | .receive => r.modeReceive
  | .transmit => r.modeTransmit

/-- The transform of `MODE`: replace the mode field, preserve the other bits (R170, R31). -/
def modeFn (r : RegMap) (m : OpMode) (v : Byte) : Byte := editFn r.modeMask (modeCode r m) v

/-- The transform of the restart: set `M_RESTART_RX`, preserve the other bits (R213). -/
def restartFn (r : RegMap) (v : Byte) : Byte := v ||| r.mRestartRx

/-- `clamp(v, lo, hi)` (R12). -/
def clamp (v lo hi : Int) : Int := if v < lo then lo else if hi < v then hi else v

/-- The power range's clamp (R130, R132). -/
def clampPower (d : Int) : Int := clamp d Config.powerMin Config.powerMax

/-- The clamp lands in -2 to 20 (R22). -/
theorem clampPower_range (d : Int) : -2 ≤ clampPower d ∧ clampPower d ≤ 20 := by
  simp only [clampPower, clamp, Config.powerMin, Config.powerMax]
  constructor <;> split_ifs <;> omega

/-- The index of a row: `q + 2` for the clamped `q` (R132). -/
def powerIndex (d : Int) : Fin 23 :=
  ⟨(clampPower d + 2).toNat, by have := clampPower_range d; omega⟩

/-- `powerSetting(d)` (R132). -/
def powerSetting (p : Params) (d : Int) : PowerRow := p.powerTable[powerIndex d]

/-- The three power recipes (R132). -/
inductive Tier where
  | base
  | secondStage
  | highPower
  deriving DecidableEq, Repr

/-- `tier(row)` (R132). -/
def tier (row : PowerRow) : Tier :=
  if row.useHighPower then .highPower else if row.useSecondStage then .secondStage else .base

/-- `PaLevel(level, second)` (R38). -/
def paLevel (r : RegMap) (level : Byte) (second : Bool) : Byte :=
  r.mStage1 ||| (if second then r.mStage2 else 0) ||| level

/-- The first line of the recipe for `d` (R133). -/
def recipeFirst (p : Params) (d : Int) : RecipeLine :=
  match tier (powerSetting p d) with
  | .highPower => .h1
  | .secondStage | .base => .n1

/-- The register and the value one line of the recipe writes (R133). -/
def recipeWrite (p : Params) (d : Int) : RecipeLine → Byte × Byte
  | .h1 => (p.regMap.aOcp, p.regMap.vOcpOff)
  | .h2 => (p.regMap.aPaLevel, paLevel p.regMap (powerSetting p d).level true)
  | .h3 => (p.regMap.aBias1, p.regMap.vBias1Boost)
  | .h4 => (p.regMap.aBias2, p.regMap.vBias2Boost)
  | .n1 => (p.regMap.aBias1, p.regMap.vBias1Normal)
  | .n2 => (p.regMap.aBias2, p.regMap.vBias2Normal)
  | .n3 => (p.regMap.aPaLevel, paLevel p.regMap (powerSetting p d).level (powerSetting p d).useSecondStage)
  | .n4 => (p.regMap.aOcp, p.regMap.vOcpOn)

/-- The line of the recipe after `l`; `none` after the last (R133). -/
def RecipeLine.next : RecipeLine → Option RecipeLine
  | .h1 => some .h2
  | .h2 => some .h3
  | .h3 => some .h4
  | .h4 => none
  | .n1 => some .n2
  | .n2 => some .n3
  | .n3 => some .n4
  | .n4 => none

/-- Whether `l` is the first line of a recipe, with which the lines before it are computed (R13). -/
def RecipeLine.isFirst : RecipeLine → Bool
  | .h1 | .n1 => true
  | .h2 | .h3 | .h4 | .n2 | .n3 | .n4 => false

/-- `tdiv(-zext(r), 2)` (R223). -/
def rssiOf (r : Byte) : Int := Int.tdiv (-(r.toNat : Int)) 2

/-- `zext(h_total) - 3`, in Int (R87, R225). -/
def payloadLength (total : Byte) : Int := (total.toNat : Int) - Config.headerLen

/-- The power a recipe of `SEND`'s `T3` is given: `tx_power` (R193). Where it holds no value, which no run from reset
shows (R22), a free value (log 5). -/
def configuredPower (s : State) : Int := s.txPower.getD Config.unsetTxPower

end Sys2Proof.Machine
end

