-- ==== Sys2Proof/Machine/Flags.lean ====
section
/-! DEFINITION. The three chip status flags that steer the RAC (R32), and the codes of its own errors (R250). The RAC has
no condition codes of its own. -/

namespace Sys2Proof.Machine

/-- A flag is set when `(value & mask) != 0` (R32). -/
def flagSet (value mask : Byte) : Bool := value &&& mask != 0

/-- `A_f` (R175). -/
def flagAddr (r : RegMap) : Flag → Byte
  | .modeReady => r.aModeReady
  | .packetSent => r.aPacketSent

/-- `M_f` (R175). -/
def flagMask (r : RegMap) : Flag → Byte
  | .modeReady => r.mModeReady
  | .packetSent => r.mPacketSent

/-- The status code (R250). -/
def Err.code : Err → Byte
  | .busError _ => 0x01
  | .notSyncing _ => 0x02
  | .resetLineError _ => 0x03
  | .payloadTooLong => 0x04
  | .protocolError _ => 0x05
  | .pollTimeout _ => 0x06
  | .notReady => 0x07
  | .busy => 0x08
  | .illegalCommand _ => 0x09

/-- The info byte (R250). -/
def Err.info : Err → Byte
  | .busError addr => addr
  | .notSyncing sentinel => sentinel
  | .resetLineError level => if level then 1 else 0
  | .payloadTooLong => 0x00
  | .protocolError total => total
  | .pollTimeout flag => flag.byte
  | .notReady => 0x00
  | .busy => 0x00
  | .illegalCommand opcode => opcode

/-- The response to an error: `[status, info]`, no value (R90). -/
def Err.response (e : Err) : List Byte := [e.code, e.info]

/-- The response to success: `[0x00, 0x00] ++ value` (R90). -/
def okResponse (value : List Byte) : List Byte := 0x00 :: 0x00 :: value

end Sys2Proof.Machine
end

