-- ==== Sys2Proof/Machine/Ops.lean ====
section
/-! DEFINITION. The named operations over the state: the ports, ending an operation well or with an error (R262, the RAC's
trap entry), refusals (R258), block reset (R290), the arbiter (R230), and the labelled lines every operation is built from
(R13). -/

namespace Sys2Proof.Machine

/-! ### Ports and positions -/

/-- A port carries `e`. -/
def State.emit (s : State) (e : Event) : State := { s with trace := s.trace ++ [e] }

/-- `seq <- (operation, label)` (R45). -/
def State.goto (s : State) (p : Pos) : State := { s with seq := .running p }

/-- The last line of the outermost operation completes: `seq <- Idle`, status `Ok` and the value (R45, R90). -/
def State.finish (s : State) (value : List Byte) : State :=
  { s with seq := .idle, trace := s.trace ++ [.response (okResponse value)] }

/-- The turns still to come. -/
def State.withEnv (s : State) (ts : List Turn) : State := { s with env := ts }

/-- Whether an operation is in progress. -/
def State.busy (s : State) : Bool :=
  match s.seq with
  | .idle => false
  | .running _ => true

/-! ### Writes of single registers -/

/-- `edit_old <- v` (R114). -/
def State.latchEdit (v : Byte) (s : State) : State := { s with editOld := v }

/-- `attempt <- 1`: the loop counter of `SYNC`, with the first `Y1` (R152, R13). -/
def State.startSync (s : State) : State := { s with attempt := 1 }

/-- `attempt <- attempt + 1` (R152). -/
def State.countAttempt (s : State) : State := { s with attempt := s.attempt + 1 }

/-- `polls <- 0`: the loop counter of `WAITF`, with the first `F1` (R175, R13). -/
def State.startPoll (s : State) : State := { s with polls := 0 }

/-- `polls <- polls + 1` (R175). -/
def State.countPoll (s : State) : State := { s with polls := s.polls + 1 }

/-- `mode_shadow <- no value` (R170). -/
def State.clearShadow (s : State) : State := { s with modeShadow := none }

/-- `mode_shadow <- m` (R170). -/
def State.setShadow (m : OpMode) (s : State) : State := { s with modeShadow := some m }

/-- `setup_done <- 0 ; mode_shadow <- no value` (R150). -/
def State.dropSetup (s : State) : State := { s with setupDone := false, modeShadow := none }

/-- `setup_done <- 1` (R158). -/
def State.setDone (s : State) : State := { s with setupDone := true }

/-- `tx_power <- q` (R131). -/
def State.storePower (q : Int) (s : State) : State := { s with txPower := some q }

/-- The Config operand is latched, at acceptance (R29, R63, log 6). -/
def State.latchConfig (cfg : List (Byte × Byte)) (s : State) : State := { s with cfg := cfg }

/-- `i = 0` (R158). -/
def State.firstPair (s : State) : State := { s with cfgI := 0 }

/-- The next `i` (R158). -/
def State.nextPair (s : State) : State := { s with cfgI := s.cfgI + 1 }

/-- The Config is "not retained afterward" (R42, R63, log 7). -/
def State.dropConfig (s : State) : State := { s with cfg := [], cfgI := 0 }

/-- `tx_dst <- dst ; tx_payload <- payload` (R190), at acceptance (R63, log 6). -/
def State.latchSend (dst : Byte) (payload : List Byte) (s : State) : State := { s with txDst := dst, txPayload := payload }

/-- `A0`: `evt_pending <- 0 ; arb_enabled <- 1 ; err_slot <- empty` (R211). -/
def State.startRxs (s : State) : State := { s with evtPending := false, arbEnabled := true, errSlot := none }

/-- `flags <- v` (R212). -/
def State.latchFlags (v : Byte) (s : State) : State := { s with flags := v }

/-- `evt_pending <- 0` (R222). -/
def State.takeEvent (s : State) : State := { s with evtPending := false }

/-- `rssi_raw` and `rssi` from the byte read at `L3` (R223). -/
def State.latchRssi (r : Byte) (s : State) : State := { s with rssiRaw := r, rssi := rssiOf r }

/-- The four header bytes drained at `L4` (R224). -/
def State.latchHeader (h : List Byte) (s : State) : State :=
  { s with hTotal := h.getD 0 0, hDst := h.getD 1 0, hSrc := h.getD 2 0, hCtl := h.getD 3 0 }

/-- `plen <- zext(h_total) - 3` (R225). -/
def State.latchPlen (s : State) : State := { s with plen := payloadLength s.hTotal }

/-- `rx_buf <- d` (R226). -/
def State.latchPayload (d : List Byte) (s : State) : State := { s with rxBuf := d }

/-- `pkt_out <- p` (R227). -/
def State.latchPacket (p : Packet) (s : State) : State := { s with pktOut := p }

/-! ### Errors: the RAC's trap entry (R262) -/

/-- `raise e` outside `RXS`: the response is the whole record of the error, `seq <- Idle`, nothing else changes (R262). -/
def State.raise (e : Err) (s : State) : State :=
  { s with seq := .idle, trace := s.trace ++ [.response e.response] }

/-- `raise e` in `SETUP`: R262, and the Config is not retained (R42, R63, log 7). -/
def State.raiseSetup (e : Err) (s : State) : State := s.dropConfig.raise e

/-- `raise e` in `RXS`, in one step (R228): the error slot keeps its first writer, the arbiter stops, the latch clears, the
response is the slot's content and the slot is emptied. -/
def State.raiseRxs (e : Err) (s : State) : State :=
  { s with
    seq := .idle
    arbEnabled := false
    evtPending := false
    errSlot := none
    trace := s.trace ++ [.response (s.errSlot.getD e).response] }

/-- A failing poke: under `strict` the error propagates, under `best_effort` it is discarded and the line after the poke is
next (R122). -/
def tryErr (skip : State → State) (fail : Err → State → State) (e : Err) (s : State) : State :=
  match s.params.pokePolicy with
  | .strict => fail e s
  | .bestEffort => skip s

/-- A refusal: a response, no state change, no Board transaction (R258). -/
def State.refuse (e : Err) (s : State) : State := s.emit (.response e.response)

/-- The tests of R258 that need no decoding, in its order; `gated` are `SEND` and `RXS`. -/
def State.refusal (gated tooLong : Bool) (s : State) : Option Err :=
  if s.busy then some .busy
  else if gated && !s.setupDone then some .notReady
  else if tooLong then some .payloadTooLong
  else none

/-! ### The other agents -/

/-- The arbiter's one rule (R230). -/
def State.irqRise (s : State) : State := if s.arbEnabled then { s with evtPending := true } else s

/-! ### Labelled lines (R13) -/

/-- What the next labelled line is: whom it waits for, and what completing it does. `ok` of a transfer is given `rx` without
the echo byte (R53). -/
inductive Line where
  /-- `Transfer(tx)`. -/
  | transfer (tx : List Byte) (ok : List Byte → State → State) (err : Err → State → State)
  /-- `SetReset(level)`. -/
  | setReset (level : Bool) (ok : State → State) (err : Err → State → State)
  /-- `Hold(t)` (R315). -/
  | hold (micros : Nat) (ok : State → State)
  /-- A line that waits for nobody (`A0`). -/
  | free (ok : State → State)
  /-- A line enabled only when `evt_pending = 1` (`W2`). -/
  | wait (ok : State → State)
  /-- A line that offers a packet and is enabled only when the host accepts (`L7`). -/
  | offer (p : Packet) (ok : State → State)

/-- Lines without a label are computed together with the labelled line that follows them (R13): `pre` happens in the step
that completes the line, whatever its answer. -/
def Line.after (pre : State → State) : Line → Line
  | .transfer tx ok err => .transfer tx (fun d s => ok d (pre s)) (fun e s => err e (pre s))
  | .setReset level ok err => .setReset level (fun s => ok (pre s)) (fun e s => err e (pre s))
  | .hold micros ok => .hold micros (fun s => ok (pre s))
  | .free ok => .free (fun s => ok (pre s))
  | .wait ok => .wait (fun s => ok (pre s))
  | .offer p ok => .offer p (fun s => ok (pre s))

/-- The unlabelled lines above a loop, computed together with its first line when the loop is entered (R13). -/
def LoopHead.before (above : State → State) : LoopHead → State → State
  | .entered => above
  | .repeated => id

/-- `RD a` as a line (R110). -/
def readLine (r : RegMap) (a : Byte) (ok : Byte → State → State) (fail : Err → State → State) : Line :=
  .transfer (frameR1 r a) (fun d => ok (d.headD 0)) fail

/-- `WR a, v` as a line (R112). -/
def writeLine (r : RegMap) (a v : Byte) (ok : State → State) (fail : Err → State → State) : Line :=
  .transfer (frameW1 r a v) (fun _ => ok) fail

/-- `BRD a, n` as a line (R116). -/
def burstReadLine (r : RegMap) (a : Byte) (n : Nat) (ok : List Byte → State → State) (fail : Err → State → State) : Line :=
  .transfer (frameRN r a n) ok fail

/-- `BWR a, bytes` as a line (R118). -/
def burstWriteLine (r : RegMap) (a : Byte) (bytes : List Byte) (ok : State → State) (fail : Err → State → State) : Line :=
  .transfer (frameWN r a bytes) (fun _ => ok) fail

/-- `ED a, fn` (R114): `at2` goes to its second line, `ok` to the line after the edit. -/
def editLine (s : State) (a : Byte) (fn : Byte → Byte) (at2 ok : State → State) (fail : Err → State → State) :
    EditLine → Line
  | .e1 => readLine s.params.regMap a (fun v t => at2 (t.latchEdit v)) fail
  | .e2 => writeLine s.params.regMap a (fn s.editOld) ok fail

/-- `try ED a, fn` (R122): a failure of either access skips what is left of the edit. -/
def pokeEditLine (s : State) (a : Byte) (fn : Byte → Byte) (at2 ok skip : State → State) (fail : Err → State → State) :
    EditLine → Line :=
  editLine s a fn at2 ok (tryErr skip fail)

/-- `try WR a, v` (R122). -/
def pokeWriteLine (r : RegMap) (a v : Byte) (ok : State → State) (fail : Err → State → State) : Line :=
  writeLine r a v ok (tryErr ok fail)

/-- After a line of the recipe: the next one, or, after the last, the line after the recipe (R133). -/
def RecipeLine.advance (l : RecipeLine) (goto : RecipeLine → State → State) (ok : State → State) (s : State) : State :=
  match l.next with
  | some l' => goto l' s
  | none => ok s

/-- `ApplyPower(d)` (R133): `goto` goes to another of its lines, `ok` to the line after the recipe. -/
def recipeLine (p : Params) (d : Int) (goto : RecipeLine → State → State) (ok : State → State)
    (fail : Err → State → State) (l : RecipeLine) : Line :=
  pokeWriteLine p.regMap (recipeWrite p d l).1 (recipeWrite p d l).2
    (l.advance goto ok) fail

/-- `RSTP` (R150). -/
def pulseLine (goto : PulseLine → State → State) (ok : State → State) (fail : Err → State → State) : PulseLine → Line
  | .p1 => (Line.setReset true (goto .p2) fail).after State.dropSetup
  | .p2 => .hold Config.tResetHigh (goto .p3)
  | .p3 => .setReset false (goto .p4) fail
  | .p4 => .hold Config.tResetSettle ok

/-- `SYNC sentinel` (R152, R154): the write of the last attempt is made before the failure is raised. -/
def syncLine (r : RegMap) (sentinel : Byte) (goto : SyncLine → State → State) (ok : State → State)
    (fail : Err → State → State) : SyncLine → Line
  | .y1 h =>
    (readLine r r.aSync (fun v s => if v = sentinel then ok s else goto .y2 s) fail).after (h.before State.startSync)
  | .y2 => writeLine r r.aSync sentinel
      (fun s =>
        if s.attempt = Config.syncAttempts then fail (.notSyncing sentinel) s
        else goto (.y1 .repeated) s.countAttempt)
      fail

/-- `WAITF f` (R175): `again` goes back to the line while the flag is clear and the bound is not met. -/
def pollLine (r : RegMap) (f : Flag) (h : LoopHead) (again ok : State → State) (fail : Err → State → State) : Line :=
  (readLine r (flagAddr r f)
    (fun v s =>
      if flagSet v (flagMask r f) then ok s
      else if s.params.pollLimit = some (s.polls + 1) then fail (.pollTimeout f) s.countPoll
      else again s.countPoll)
    fail).after (h.before State.startPoll)

/-- `MODE m` (R170, R171): the shadow holds no value from the read on, and takes `m` when both transactions succeeded. -/
def modeLine (s : State) (m : OpMode) (at2 ok : State → State) (fail : Err → State → State) (l : EditLine) : Line :=
  let line := pokeEditLine s s.params.regMap.aOpmode (modeFn s.params.regMap m) at2
    (fun t => ok (t.setShadow m)) ok fail l
  match l with
  | .e1 => line.after State.clearShadow
  | .e2 => line

/-! ### Transactions (R7, R57) -/

/-- The bytes of an answer; on `Err` no byte exists (R57). -/
def Answer.bytes : Answer → Option (List Byte)
  | .ok rx => some rx
  | .err => none

/-- The Board's one law: `len(rx) = len(tx)` (R7). -/
def Answer.fits (tx : List Byte) : Answer → Bool
  | .ok rx => rx.length == tx.length
  | .err => true

/-- `Transfer(tx)` is answered (R57). -/
def State.transact (tx : List Byte) (ans : Answer) (s : State) : State :=
  { s with busRx := ans.bytes, trace := s.trace ++ [.transfer tx ans.bytes] }

/-- One `Transfer(tx)` at port `bus`, the meaning of every bus frame (R80, R12): the Board's answer, if it is the next turn,
is taken; otherwise the transaction awaits it (R46). DESIGN CHOICE (log 8): the frame stands alone, whatever `seq` holds; with an
operation in progress, where R7 allows the sequencer no second transaction, it would take the answer and leave the operation
at its line. Safe: no step runs a frame row. -/
def transferNow (tx : List Byte) (s : State) : Host.Outcome State Fault Refusal :=
  match s.env with
  | .board ans :: rest =>
    .next (if ans.fits tx then (s.withEnv rest).transact tx ans else s.withEnv rest)
  | _ => .next s

/-- A completed line with the turn that completes it; any other turn passes (log 1). -/
def Line.complete (t : Turn) (s : State) : Line → State
  | .transfer tx ok err =>
    match t with
    | .board ans =>
      if ans.fits tx then
        match ans with
        | .ok rx => ok (rx.drop 1) (s.transact tx ans)
        | .err => err (.busError (tx.headD 0)) (s.transact tx ans)
      else s
    | _ => s
  | .setReset level ok err =>
    match t with
    | .line true => ok (s.emit (.setReset level true))
    | .line false => err (.resetLineError level) (s.emit (.setReset level false))
    | _ => s
  | .hold micros ok =>
    match t with
    | .tick => ok (s.emit (.hold micros))
    | _ => s
  | .free ok =>
    match t with
    | .tick => ok s
    | _ => s
  | .wait ok =>
    match t with
    | .tick => if s.evtPending then ok s.takeEvent else s
    | _ => s
  | .offer p ok =>
    match t with
    | .accept => ok ((s.latchPacket p).emit (.packet p))
    | _ => s

end Sys2Proof.Machine
end

