-- ==== Sys2Proof/Machine/AccessLines.lean ====
section
/-! DEFINITION. The lines of the register access operations (40_register_access.md). -/

namespace Sys2Proof.Machine

/-- `X1` of `RD` (R110). -/
def lineRd (s : State) (a : Byte) : Line := readLine s.params.regMap a (fun v t => t.finish [v]) State.raise

/-- `X1` of `WR` (R112). -/
def lineWr (s : State) (a v : Byte) : Line := writeLine s.params.regMap a v (fun t => t.finish []) State.raise

/-- `E1`, `E2` of `ED` (R114); issued by the host its error is always reported. -/
def lineEd (s : State) (a clr set : Byte) (l : EditLine) : Line :=
  editLine s a (editFn clr set) (fun t => t.goto (.ed a clr set .e2)) (fun t => t.finish []) State.raise l

/-- `X1` of `BRD` (R116). -/
def lineBrd (s : State) (a n : Byte) : Line :=
  burstReadLine s.params.regMap a n.toNat (fun d t => t.finish d) State.raise

/-- `X1` of `BWR` (R118). -/
def lineBwr (s : State) (a : Byte) (bytes : List Byte) : Line :=
  burstWriteLine s.params.regMap a bytes (fun t => t.finish []) State.raise

end Sys2Proof.Machine
end

