-- ==== Sys2Proof/Machine/ModeLines.lean ====
section
/-! DEFINITION. The lines of `MODE` and `WAITF` (43_mode.md). -/

namespace Sys2Proof.Machine

/-- The lines of `MODE` (R170). -/
def lineMode (s : State) (m : OpMode) (l : EditLine) : Line :=
  modeLine s m (fun t => t.goto (.mode m .e2)) (fun t => t.finish []) State.raise l

/-- `F1` of `WAITF` (R175). -/
def lineWaitf (s : State) (f : Flag) (h : LoopHead) : Line :=
  pollLine s.params.regMap f h (fun t => t.goto (.waitf f .repeated)) (fun t => t.finish []) State.raise

end Sys2Proof.Machine
end

