-- ==== Sys2Proof/Machine/ReceiveLines.lean ====
section
/-! DEFINITION. The lines of `RXS` (45_receive.md). -/

namespace Sys2Proof.Machine

/-- The length test and the payload length, in the step that drained the header (R225). -/
def State.checkHeader (s : State) : State :=
  if s.hTotal.toNat < Config.headerLen then s.raiseRxs (.protocolError s.hTotal)
  else s.latchPlen.goto (.rxs .l6)

/-- The packet `L7` offers (R227, R44). -/
def State.packet (s : State) : Packet := ⟨s.hSrc, s.hDst, s.rssi, s.rxBuf⟩

/-- The lines of `RXS` (R210). After `L7` the next line is `A1`, not `A0` (R229). DESIGN CHOICE (log 21): with the flag clear at
`A1` the next line is `A2`; `A1r`, which then makes no transaction (R213, listed in R45), is no step of its own. -/
def lineRxs (s : State) : RxsLine → Line
  | .a0 => .free fun t => t.startRxs.goto (.rxs .a1)
  | .a1 => readLine s.params.regMap s.params.regMap.aPayloadReady
      (fun v t =>
        if flagSet v t.params.regMap.mPayloadReady then (t.latchFlags v).goto (.rxs (.a1r .e1))
        else (t.latchFlags v).goto (.rxs .a2))
      State.raiseRxs
  | .a1r l => pokeEditLine s s.params.regMap.aPktCfg (restartFn s.params.regMap) (fun t => t.goto (.rxs (.a1r .e2)))
      (fun t => t.goto (.rxs .a2)) (fun t => t.goto (.rxs .a2)) State.raiseRxs l
  | .a2 => writeLine s.params.regMap s.params.regMap.aDioMap s.params.regMap.vDioMapRx
      (fun t => t.goto (.rxs (.a3 .e1))) State.raiseRxs
  | .a3 l => modeLine s .receive (fun t => t.goto (.rxs (.a3 .e2))) (fun t => t.goto (.rxs .a4)) State.raiseRxs l
  | .a4 => pokeWriteLine s.params.regMap s.params.regMap.aBias1 s.params.regMap.vBias1Normal
      (fun t => t.goto (.rxs .a5)) State.raiseRxs
  | .a5 => pokeWriteLine s.params.regMap s.params.regMap.aBias2 s.params.regMap.vBias2Normal
      (fun t => t.goto (.rxs .w2)) State.raiseRxs
  | .w2 => .wait fun t => t.goto (.rxs .l3)
  | .l3 => readLine s.params.regMap s.params.regMap.aRssi (fun v t => (t.latchRssi v).goto (.rxs .l4)) State.raiseRxs
  | .l4 => burstReadLine s.params.regMap s.params.regMap.aFifo 4 (fun h t => (t.latchHeader h).checkHeader) State.raiseRxs
  | .l6 => burstReadLine s.params.regMap s.params.regMap.aFifo s.plen.toNat
      (fun d t => (t.latchPayload d).goto (.rxs .l7)) State.raiseRxs
  | .l7 => .offer s.packet fun t => t.goto (.rxs .a1)

end Sys2Proof.Machine
end

