-- ==== Sys2Proof/Machine/SendLines.lean ====
section
/-! DEFINITION. The lines of `SEND` (44_transmit.md). -/

namespace Sys2Proof.Machine

/-- The frame `T5` pushes: `[n + 3, tx_dst, NODE_ADDR, 0x00] ++ tx_payload` (R195, R86). -/
def sendFrame (s : State) : List Byte :=
  fifoBytes (lengthByte s.txPayload.length) s.txDst s.params.nodeAddr 0x00 s.txPayload

/-- The lines of `SEND` (R190). -/
def lineSend (s : State) (dst : Byte) (payload : List Byte) : SendLine → Line
  | .t1 l => modeLine s .standby (fun t => t.goto (.send dst payload (.t1 .e2)))
      (fun t => t.goto (.send dst payload (.t1w .entered))) State.raise l
  | .t1w h => pollLine s.params.regMap .modeReady h (fun t => t.goto (.send dst payload (.t1w .repeated)))
      (fun t => t.goto (.send dst payload .t2)) State.raise
  | .t2 => writeLine s.params.regMap s.params.regMap.aIrqFlags s.params.regMap.vFifoClear
      (fun t => t.goto (.send dst payload (.t3 (recipeFirst t.params (configuredPower t))))) State.raise
  | .t3 l => recipeLine s.params (configuredPower s) (fun l' t => t.goto (.send dst payload (.t3 l')))
      (fun t => t.goto (.send dst payload .t4)) State.raise l
  | .t4 => writeLine s.params.regMap s.params.regMap.aDioMap s.params.regMap.vDioMapTx
      (fun t => t.goto (.send dst payload .t5)) State.raise
  | .t5 => burstWriteLine s.params.regMap s.params.regMap.aFifo (sendFrame s)
      (fun t => t.goto (.send dst payload (.t6 .e1))) State.raise
  | .t6 l => modeLine s .transmit (fun t => t.goto (.send dst payload (.t6 .e2)))
      (fun t => t.goto (.send dst payload (.t6w .entered))) State.raise l
  | .t6w h => pollLine s.params.regMap .packetSent h (fun t => t.goto (.send dst payload (.t6w .repeated)))
      (fun t => t.goto (.send dst payload (.t7 .e1))) State.raise
  | .t7 l => modeLine s .standby (fun t => t.goto (.send dst payload (.t7 .e2)))
      (fun t => t.goto (.send dst payload (.t7w .entered))) State.raise l
  | .t7w h => pollLine s.params.regMap .modeReady h (fun t => t.goto (.send dst payload (.t7w .repeated)))
      (fun t => t.goto (.send dst payload (.t7p (recipeFirst t.params t.params.idlePower)))) State.raise
  | .t7p l => recipeLine s.params s.params.idlePower (fun l' t => t.goto (.send dst payload (.t7p l')))
      (fun t => t.finish []) State.raise l

end Sys2Proof.Machine
end

