-- ==== Sys2Proof/Machine/PowerLines.lean ====
section
/-! DEFINITION. The lines of `PWR` (41_power.md), also called by `SETUP`. -/

namespace Sys2Proof.Machine

/-- `PWR` with operand `d` (R130, R131): the clamped value is stored together with the first write of the recipe. -/
def powerLine (s : State) (d : Int) (goto : RecipeLine → State → State) (ok : State → State)
    (fail : Err → State → State) (l : RecipeLine) : Line :=
  (recipeLine s.params (clampPower d) goto ok fail l).after fun t =>
    if l.isFirst then t.storePower (clampPower d) else t

/-- The lines of `PWR` (R130). -/
def linePwr (s : State) (p : Byte) (l : RecipeLine) : Line :=
  powerLine s p.toInt (fun l' t => t.goto (.pwr p l')) (fun t => t.finish []) State.raise l

end Sys2Proof.Machine
end

