-- ==== Sys2Proof/Machine/SyncLines.lean ====
section
/-! DEFINITION. The lines of `RSTP`, `SYNC` and `SETUP` (42_sync.md). -/

namespace Sys2Proof.Machine

/-- The lines of `RSTP` (R150). -/
def lineRstp (l : PulseLine) : Line :=
  pulseLine (fun l' t => t.goto (.rstp l')) (fun t => t.finish []) State.raise l

/-- The lines of `SYNC` (R152). -/
def lineSync (s : State) (sentinel : Byte) (l : SyncLine) : Line :=
  syncLine s.params.regMap sentinel (fun l' t => t.goto (.sync sentinel l')) (fun t => t.finish []) State.raise l

/-- `SETUP` arrives at `S5` (R158). -/
def State.gotoPower (cfg : List (Byte × Byte)) (s : State) : State :=
  s.goto (.setup cfg (.s5 (recipeFirst s.params (clampPower s.params.initialPower))))

/-- `SETUP` arrives at `S4` with the first pair, or, where the Config is empty, at `S5` (R158). -/
def State.gotoConfig (cfg : List (Byte × Byte)) (s : State) : State :=
  if s.cfg.length = 0 then s.firstPair.gotoPower cfg else s.firstPair.goto (.setup cfg .s4)

/-- The last step of a `SETUP` that ends without error (R24, R158); the Config is not retained (R42, R63). -/
def State.finishSetup (s : State) : State := s.setDone.dropConfig.finish []

/-- The lines of `SETUP` (R158). -/
def lineSetup (s : State) (cfg : List (Byte × Byte)) : SetupLine → Line
  | .s1 l => pulseLine (fun l' t => t.goto (.setup cfg (.s1 l')))
      (fun t => t.goto (.setup cfg (.s2 (.y1 .entered)))) State.raiseSetup l
  | .s2 l => syncLine s.params.regMap Config.sentinel1 (fun l' t => t.goto (.setup cfg (.s2 l')))
      (fun t => t.goto (.setup cfg (.s3 (.y1 .entered)))) State.raiseSetup l
  | .s3 l => syncLine s.params.regMap Config.sentinel2 (fun l' t => t.goto (.setup cfg (.s3 l')))
      (fun t => t.gotoConfig cfg) State.raiseSetup l
  | .s4 =>
    writeLine s.params.regMap (s.cfg.getD s.cfgI (0, 0)).1 (s.cfg.getD s.cfgI (0, 0)).2
      (fun t =>
        if t.cfgI + 1 < t.cfg.length then t.nextPair.goto (.setup cfg .s4) else t.nextPair.gotoPower cfg)
      State.raiseSetup
  | .s5 l => powerLine s s.params.initialPower (fun l' t => t.goto (.setup cfg (.s5 l'))) State.finishSetup State.raiseSetup l

end Sys2Proof.Machine
end

