-- ==== Sys2Proof/Machine/Sequencer.lean ====
section
/-! DEFINITION. The sequencer (R8, R13, R45): the line at each position, one turn of the sequencer, a run of an operation, the acceptance of a command (R258), and block reset (R290). -/

namespace Sys2Proof.Machine

/-- The labelled line at a position (R45). -/
def lineAt (s : State) : Pos → Line
  | .rd a => lineRd s a
  | .wr a v => lineWr s a v
  | .ed a clr set l => lineEd s a clr set l
  | .brd a n => lineBrd s a n
  | .bwr a bytes => lineBwr s a bytes
  | .pwr p l => linePwr s p l
  | .rstp l => lineRstp l
  | .sync sentinel l => lineSync s sentinel l
  | .setup cfg l => lineSetup s cfg l
  | .mode m l => lineMode s m l
  | .waitf f h => lineWaitf s f h
  | .send dst payload l => lineSend s dst payload l
  | .rxs l => lineRxs s l

/-- One turn of the sequencer: the labelled line `seq` names, completed by `t` (R13). -/
def takeLine (t : Turn) (s : State) : State :=
  match s.seq with
  | .idle => s
  | .running p => (lineAt s p).complete t s

/-- The turns that complete a line of the sequencer. -/
def Turn.isSequencer : Turn → Bool
  | .board _ | .line _ | .tick | .accept => true
  | .irq | .cmd _ _ | .blockReset | .pass => false

/-- The run of an operation: the sequencer completes one line after another while the turns are its own and an operation is in
progress; what is left of the turns is `env` (log 2). -/
def drive : List Turn → State → State
  | [], s => s
  | t :: rest, s => if t.isSequencer && s.busy then drive rest (takeLine t (s.withEnv rest)) else s

/-- A command is accepted (R258 step 5: `seq` at the first labelled line) and runs on the turns that follow, as far as
they are the sequencer's, or refused. -/
def issue (gated tooLong : Bool) (start : State → State) (s : State) : Host.Outcome State Fault Refusal :=
  match s.refusal gated tooLong with
  | some e => .next (s.refuse e)
  | none => .next (drive s.env (start s))

/-- What an unanswered Board transaction leaves on record at block reset (R291, U27). -/
def Line.forgotten : Line → List Event
  | .transfer tx _ _ => [.transferForgotten tx]
  | .setReset level _ _ => [.setResetForgotten level]
  | .hold _ _ | .free _ | .wait _ | .offer _ _ => []

/-- The transaction outstanding in `s`, as block reset records it. -/
def State.forgotten (s : State) : List Event :=
  match s.seq with
  | .idle => []
  | .running p => (lineAt s p).forgotten

/-- Block reset (R290, R291): every register at the value of R47; no Board transaction is made. DESIGN
CHOICE (log 20): a command it cuts off gets no response, then or later. -/
def State.blockReset (s : State) : State :=
  { State.reset with params := s.params, env := s.env, trace := s.trace ++ s.forgotten }

end Sys2Proof.Machine
end

