-- ==== Sys2Proof/Machine/Access.lean ====
section
/-! DEFINITION. The meanings of `RD`, `WR`, `ED`, `BRD`, `BWR` (40_register_access.md). -/

namespace Sys2Proof.Machine

/-- `RD a` (R110). -/
def execRd (a : Byte) (s : State) : Host.Outcome State Fault Refusal :=
  issue false false (fun t => t.goto (.rd a)) s

/-- `WR a, v` (R112). -/
def execWr (a v : Byte) (s : State) : Host.Outcome State Fault Refusal :=
  issue false false (fun t => t.goto (.wr a v)) s

/-- `ED a, clr, set` (R114, R91). -/
def execEd (a clr set : Byte) (s : State) : Host.Outcome State Fault Refusal :=
  issue false false (fun t => t.goto (.ed a clr set .e1)) s

/-- `BRD a, n` (R116). -/
def execBrd (a n : Byte) (s : State) : Host.Outcome State Fault Refusal :=
  issue false false (fun t => t.goto (.brd a n)) s

/-- `BWR a, bytes` (R118). -/
def execBwr (a : Byte) (bytes : List Byte) (s : State) : Host.Outcome State Fault Refusal :=
  issue false false (fun t => t.goto (.bwr a bytes)) s

end Sys2Proof.Machine
end

