-- ==== Sys2Proof/Machine/Frames.lean ====
section
/-! DEFINITION. The meanings of the bus frame forms and of the FIFO frame (30_encoding.md): one `Transfer` each (log 8,
log 9). -/

namespace Sys2Proof.Machine

/-- BUS-R1: one transfer of `[AddrByte(a, read), FILL]` (R82). -/
def execBusR1 (a : Byte) (s : State) : Host.Outcome State Fault Refusal :=
  transferNow (frameR1 s.params.regMap a) s

/-- BUS-W1: one transfer of `[AddrByte(a, write), v]` (R83). -/
def execBusW1 (a v : Byte) (s : State) : Host.Outcome State Fault Refusal :=
  transferNow (frameW1 s.params.regMap a v) s

/-- BUS-RN: one transfer of `[AddrByte(a, read)] ++ zeros(n)` (R84). -/
def execBusRN (a : Byte) (n : Nat) (s : State) : Host.Outcome State Fault Refusal :=
  transferNow (frameRN s.params.regMap a n) s

/-- BUS-WN: one transfer of `[AddrByte(a, write)] ++ bytes` (R85). -/
def execBusWN (a : Byte) (bytes : List Byte) (s : State) : Host.Outcome State Fault Refusal :=
  transferNow (frameWN s.params.regMap a bytes) s

/-- FIFO-FRAME: the frame is pushed into the FIFO by one burst write at `A_FIFO` (R86, R195). -/
def execFifoFrame (len dst src ctl : Byte) (payload : List Byte) (s : State) : Host.Outcome State Fault Refusal :=
  transferNow (frameWN s.params.regMap s.params.regMap.aFifo (fifoBytes len dst src ctl payload)) s

end Sys2Proof.Machine
end

