-- ==== Sys2Proof/Machine/Mode.lean ====
section
/-! DEFINITION. The meanings of `MODE` and `WAITF` (43_mode.md). -/

namespace Sys2Proof.Machine

/-- `MODE m` (R170). -/
def execMode (m : OpMode) (s : State) : Host.Outcome State Fault Refusal :=
  issue false false (fun t => t.goto (.mode m .e1)) s

/-- `WAITF f` (R175). -/
def execWaitf (f : Flag) (s : State) : Host.Outcome State Fault Refusal :=
  issue false false (fun t => t.goto (.waitf f .entered)) s

end Sys2Proof.Machine
end

