-- ==== Sys2Proof/Machine/Power.lean ====
section
/-! DEFINITION. The meaning of `PWR` (41_power.md). -/

namespace Sys2Proof.Machine

/-- `PWR p` (R130): the operand is a signed byte, clamped, never refused. -/
def execPwr (p : Byte) (s : State) : Host.Outcome State Fault Refusal :=
  issue false false (fun t => t.goto (.pwr p (recipeFirst t.params (clampPower p.toInt)))) s

end Sys2Proof.Machine
end

