-- ==== Sys2Proof/Machine/Receive.lean ====
section
/-! DEFINITION. The meaning of `RXS` (45_receive.md). -/

namespace Sys2Proof.Machine

/-- `RXS` (R210): refused before set-up (R258). -/
def execRxs (s : State) : Host.Outcome State Fault Refusal :=
  issue true false (fun t => t.goto (.rxs .a0)) s

end Sys2Proof.Machine
end

