-- ==== Sys2Proof/Machine/Sync.lean ====
section
/-! DEFINITION. The meanings of `RSTP`, `SYNC`, `SETUP` (42_sync.md). -/

namespace Sys2Proof.Machine

/-- `RSTP` (R150). -/
def execRstp (s : State) : Host.Outcome State Fault Refusal :=
  issue false false (fun t => t.goto (.rstp .p1)) s

/-- `SYNC s` (R152). -/
def execSync (sentinel : Byte) (s : State) : Host.Outcome State Fault Refusal :=
  issue false false (fun t => t.goto (.sync sentinel (.y1 .entered))) s

/-- `SETUP cfg` (R158): the Config is latched when the command is accepted (R63, log 6). -/
def execSetup (cfg : List (Byte × Byte)) (s : State) : Host.Outcome State Fault Refusal :=
  issue false false (fun t => (t.latchConfig cfg).goto (.setup cfg (.s1 .p1))) s

end Sys2Proof.Machine
end

