-- ==== Sys2Proof/Machine/Transmit.lean ====
section
/-! DEFINITION. The meaning of `SEND` (44_transmit.md). -/

namespace Sys2Proof.Machine

/-- `SEND dst, payload` (R190): refused before set-up and with more than 252 bytes (R191, R258); the operands
are latched when the command is accepted (R63, log 6). -/
def execSend (dst : Byte) (payload : List Byte) (s : State) : Host.Outcome State Fault Refusal :=
  issue true (decide (Config.maxPayload < payload.length)) (fun t => (t.latchSend dst payload).goto (.send dst payload (.t1 .e1))) s

end Sys2Proof.Machine
end

