-- ==== Sys2Proof/Machine/Dispatch.lean ====
section
/-! DEFINITION. One arm per operation, each one call of its meaning. -/

namespace Sys2Proof.Machine

def exec (i : Instr) (s : State) : Host.Outcome State Fault Refusal :=
  match i with
  | .rd a => Sys2Proof.Machine.execRd a s
  | .wr a v => Sys2Proof.Machine.execWr a v s
  | .ed a clr set => Sys2Proof.Machine.execEd a clr set s
  | .brd a n => Sys2Proof.Machine.execBrd a n s
  | .bwr a bytes => Sys2Proof.Machine.execBwr a bytes s
  | .pwr p => Sys2Proof.Machine.execPwr p s
  | .rstp => Sys2Proof.Machine.execRstp s
  | .sync sentinel => Sys2Proof.Machine.execSync sentinel s
  | .setup cfg => Sys2Proof.Machine.execSetup cfg s
  | .mode m => Sys2Proof.Machine.execMode m s
  | .waitf f => Sys2Proof.Machine.execWaitf f s
  | .send dst payload => Sys2Proof.Machine.execSend dst payload s
  | .rxs => Sys2Proof.Machine.execRxs s
  | .busR1 a => Sys2Proof.Machine.execBusR1 a s
  | .busW1 a v => Sys2Proof.Machine.execBusW1 a v s
  | .busRN a n => Sys2Proof.Machine.execBusRN a n s
  | .busWN a bytes => Sys2Proof.Machine.execBusWN a bytes s
  | .fifoFrame len dst src ctl payload => Sys2Proof.Machine.execFifoFrame len dst src ctl payload s

end Sys2Proof.Machine
end

