-- ==== Sys2Proof/Machine/Port.lean ====
section
/-! DEFINITION. What one step does with the next turn: a command at port `cmd` (R258), an edge, block reset, a turn of the
sequencer; and how a table word is placed to be run next (log 10). -/

namespace Sys2Proof.Machine

/-- An outcome with the turns kept back for the steps to come. -/
def keepTurns (ts : List Turn) : Host.Outcome State Fault Refusal → Host.Outcome State Fault Refusal
  | .next t => .next (t.withEnv ts)
  | .fault r => .fault r
  | .refused r => .refused r

/-- A command arrives: `Busy` before it is decoded, then `IllegalCommand`, then the operation's own tests (R258, R92). The
operation is given no turn yet: its acceptance is this step, and each of its lines a step of its own (R13, log 2). -/
def command (op : Byte) (operands : List Byte) (s : State) : Host.Outcome State Fault Refusal :=
  if s.busy then .next (s.refuse .busy)
  else
    match decodeCmd op operands with
    | .reject _ => .next (s.refuse (.illegalCommand op))
    | .instr i => keepTurns s.env (exec i (s.withEnv []))

/-- One step: the agent whose turn is next moves (R8); a turn of the sequencer completes one labelled line (R13). With no turn
left nobody moves: the sequencer is idle, blocked or awaiting (R46). -/
def turn (s : State) : Host.Outcome State Fault Refusal :=
  match s.env with
  | [] => .next s
  | .cmd op operands :: rest => command op operands (s.withEnv rest)
  | .irq :: rest => .next (s.withEnv rest).irqRise
  | .blockReset :: rest => .next (s.withEnv rest).blockReset
  | .pass :: rest => .next (s.withEnv rest)
  | .board ans :: rest => .next (takeLine (.board ans) (s.withEnv rest))
  | .line ok :: rest => .next (takeLine (.line ok) (s.withEnv rest))
  | .tick :: rest => .next (takeLine .tick (s.withEnv rest))
  | .accept :: rest => .next (takeLine .accept (s.withEnv rest))

/-- A table word placed to be run by the very next step. A command's word is what the host issues next at port `cmd`. A bus
frame's word is no command (R92): it is placed as the frame of an `RD` or `WR` at its line `X1`, with the Board's answer to
that frame (log 10). -/
def placeWord (nbits w : Nat) (s : State) : State :=
  let b := (wordStream nbits w).1
  let rest := (wordStream nbits w).2
  match Opcode.ofByte b with
  | some o => { s with seq := .idle, env := .cmd b (rest.take (o.operandCount rest)) :: s.env }
  | none =>
    let a := b &&& ~~~s.params.regMap.dirMask
    let p : Pos := if b &&& s.params.regMap.dirMask = s.params.regMap.dirWrite then .wr a (rest.headD 0) else .rd a
    { s with seq := .running p, env := .board (.ok [0, 0]) :: s.env }

end Sys2Proof.Machine
end

