-- ==== Sys2Proof/Machine/Step.lean ====
section
/-! DEFINITION. The step of the machine and the placing of a word for the host. -/

namespace Sys2Proof.Machine

/-- One step of the machine: the next turn. -/
def step (s : State) : Host.Outcome State Fault Refusal := turn s

/-- `s` with the table word where the next step runs it (log 10). -/
def State.withFetchWord (s : State) (nbits w : Nat) : State := placeWord nbits w s

end Sys2Proof.Machine
end

