-- ==== Sys2Proof/Safety.lean ====
section
/-! DEFINITION. The terms the statements use: the invariant of the machine, the kinds of position (R46), which accesses are
pokes (R122), the source's invariant I1 (R43), and names for the Board's answers and what the ports carried. -/

namespace Sys2Proof.Machine

/-! ### The invariant -/

/-- The polls made so far are within the bound (R175). -/
def State.pollsInBound (s : State) : Prop := ∀ n, s.params.pollLimit = some n → s.polls < n

/-- The attempt in progress of a sync phase is one of the fifteen, from the first `Y1` on (R13, R29, R154). -/
def State.attemptInBound (s : State) (l : SyncLine) : Prop := l ≠ .y1 .entered → 1 ≤ s.attempt ∧ s.attempt ≤ 15

/-- What holds of the registers while `SETUP` stands at a line (R24, R29, R158). -/
def State.setupOk (s : State) (cfg : List (Byte × Byte)) : SetupLine → Prop
  | .s1 l => s.cfg = cfg ∧ (l ≠ .p1 → s.setupDone = false)
  | .s2 l | .s3 l => s.setupDone = false ∧ s.cfg = cfg ∧ s.attemptInBound l
  | .s4 => s.setupDone = false ∧ s.cfg = cfg ∧ s.cfgI < s.cfg.length
  | .s5 l => s.setupDone = false ∧ (l.isFirst = false → s.txPower = some (clampPower s.params.initialPower))

/-- What holds of the registers while `SEND` stands at a line (R24, R29, R191). -/
def State.sendOk (s : State) (dst : Byte) (payload : List Byte) (l : SendLine) : Prop :=
  s.setupDone = true ∧ payload.length ≤ 252 ∧
  s.txDst = dst ∧ s.txPayload = payload ∧
  (l = .t1w .repeated ∨ l = .t6w .repeated ∨ l = .t7w .repeated → s.pollsInBound)

/-- The header drained at `L4` is legal and gives the payload length (R225). -/
def State.headerOk (s : State) : Prop := 3 ≤ s.hTotal.toNat ∧ s.plen = (s.hTotal.toNat : Int) - 3

/-- What holds of the registers while `RXS` stands at a line (R24, R27, R223, R225, R226). -/
def State.rxsOk (s : State) (l : RxsLine) : Prop :=
  s.setupDone = true ∧ (s.arbEnabled = true ↔ l ≠ .a0) ∧
  (l = .l4 ∨ l = .l6 ∨ l = .l7 → s.rssi = rssiOf s.rssiRaw) ∧
  (l = .l6 ∨ l = .l7 → s.headerOk) ∧
  (l = .l7 → (s.rxBuf.length : Int) = s.plen)

/-- What holds of the registers at a position. -/
def State.posOk (s : State) : Pos → Prop
  | .rstp l => l ≠ .p1 → s.setupDone = false
  | .sync _ l => s.attemptInBound l
  | .setup cfg l => s.setupOk cfg l
  | .waitf _ h => h = .repeated → s.pollsInBound
  | .send dst payload l => s.sendOk dst payload l
  | .rxs l => s.rxsOk l
  | .rd _ | .wr _ _ | .ed _ _ _ _ | .brd _ _ | .bwr _ _ | .pwr _ _ | .mode _ _ => True

/-- The invariant every step keeps. -/
structure State.Inv (s : State) : Prop where
  /-- `tx_power` lies in -2 to 20 or holds no value (R22). -/
  powerRange : ∀ q, s.txPower = some q → -2 ≤ q ∧ q ≤ 20
  /-- After a completed `SETUP` the power holds a value (R193). -/
  powerSet : s.setupDone = true → s.txPower.isSome = true
  /-- The error slot is empty between steps (R228). -/
  slotEmpty : s.errSlot = none
  /-- The latch is set only while the arbiter runs (R230, R228). -/
  latch : s.evtPending = true → s.arbEnabled = true
  /-- The arbiter runs only while `RXS` does (R27). -/
  arbiter : s.arbEnabled = true → ∃ l, s.seq = .running (.rxs l)
  /-- The registers fit the position. -/
  position : ∀ p, s.seq = .running p → s.posOk p

/-! ### Kinds of position (R46) -/

/-- The `Transfer` the sequencer waits to have answered. -/
def State.outstanding (s : State) : Option (List Byte) :=
  match s.seq with
  | .idle => none
  | .running p =>
    match lineAt s p with
    | .transfer tx _ _ => some tx
    | .setReset _ _ _ | .hold _ _ | .free _ | .wait _ | .offer _ _ => none

/-- The level of the `SetReset` the sequencer waits to have answered. -/
def State.settingReset (s : State) : Option Bool :=
  match s.seq with
  | .running (.rstp .p1) | .running (.setup _ (.s1 .p1)) => some true
  | .running (.rstp .p3) | .running (.setup _ (.s1 .p3)) => some false
  | _ => none

/-- The packet offered at port `pkt` (R62 b). -/
def State.offered (s : State) : Option Packet := if s.seq = .running (.rxs .l7) then some s.packet else none

/-- A blocked position: `W2` with the latch clear, or `L7` (R46). -/
def State.blocked (s : State) : Bool :=
  (s.seq == .running (.rxs .w2) && !s.evtPending) || s.seq == .running (.rxs .l7)

/-- A spinning position: a poll with no bound (R46). -/
def State.spinning (s : State) : Bool :=
  s.params.pollLimit == none &&
  match s.seq with
  | .running (.waitf _ _) => true
  | .running (.send _ _ (.t1w _)) | .running (.send _ _ (.t6w _)) | .running (.send _ _ (.t7w _)) => true
  | _ => false

/-! ### Pokes (R122) -/

/-- The register accesses the source calls best-effort: the edit of `MODE`, the restart, the recipe, the two bias writes. -/
def Pos.isPoke : Pos → Bool
  | .mode _ _ | .pwr _ _ => true
  | .setup _ l => match l with
    | .s5 _ => true
    | .s1 _ | .s2 _ | .s3 _ | .s4 => false
  | .send _ _ l => match l with
    | .t1 _ | .t3 _ | .t6 _ | .t7 _ | .t7p _ => true
    | .t1w _ | .t2 | .t4 | .t5 | .t6w _ | .t7w _ => false
  | .rxs l => match l with
    | .a1r _ | .a3 _ | .a4 | .a5 => true
    | .a0 | .a1 | .a2 | .w2 | .l3 | .l4 | .l6 | .l7 => false
  | .rd _ | .wr _ _ | .ed _ _ _ _ | .brd _ _ | .bwr _ _ | .rstp _ | .sync _ _ | .waitf _ _ => false

/-- The line after `try X` for the poke at a position, with the rest of `X` left out: of an edit the write too (R122). `none`:
the poke is the last line of its operation. -/
def Pos.afterPoke : Pos → Option Pos
  | .mode _ _ => none
  | .pwr p l => l.next.map (.pwr p)
  | .setup cfg (.s5 l) => l.next.map fun l' => .setup cfg (.s5 l')
  | .send dst payload (.t1 _) => some (.send dst payload (.t1w .entered))
  | .send dst payload (.t3 l) => some (match l.next with
    | some l' => .send dst payload (.t3 l')
    | none => .send dst payload .t4)
  | .send dst payload (.t6 _) => some (.send dst payload (.t6w .entered))
  | .send dst payload (.t7 _) => some (.send dst payload (.t7w .entered))
  | .send dst payload (.t7p l) => l.next.map fun l' => .send dst payload (.t7p l')
  | .rxs (.a1r _) => some (.rxs .a2)
  | .rxs (.a3 _) => some (.rxs .a4)
  | .rxs .a4 => some (.rxs .a5)
  | .rxs .a5 => some (.rxs .w2)
  | .setup _ (.s1 _) | .setup _ (.s2 _) | .setup _ (.s3 _) | .setup _ .s4 => none
  | .send _ _ (.t1w _) | .send _ _ (.t6w _) | .send _ _ (.t7w _) => none
  | .send _ _ .t2 | .send _ _ .t4 | .send _ _ .t5 => none
  | .rxs .a0 | .rxs .a1 | .rxs .a2 | .rxs .w2 | .rxs .l3 | .rxs .l4 | .rxs .l6 | .rxs .l7 => none
  | .rd _ | .wr _ _ | .ed _ _ _ _ | .brd _ _ | .bwr _ _ | .rstp _ | .sync _ _ | .waitf _ _ => none

/-! ### The believed mode (R43, I1) -/

/-- The byte an event writes to the mode register, if it does: the last data byte of a frame with its write address. -/
def Event.opmodeByte (r : RegMap) : Event → Option Byte
  | .transfer (b :: data) _ => if b = addrByte r r.aOpmode .write then data.getLast? else none
  | _ => none

/-- The last byte the RAC wrote to `A_OPMODE`. -/
def lastOpmodeByte (r : RegMap) (trace : List Event) : Option Byte := (trace.filterMap (Event.opmodeByte r)).getLast?

/-- I1 of R43: where the shadow holds a mode, the last byte written to `A_OPMODE` had its code in the mode field. -/
def State.shadowTrue (s : State) : Prop :=
  ∀ m, s.modeShadow = some m →
    ∃ v, lastOpmodeByte s.params.regMap s.trace = some v ∧ v &&& s.params.regMap.modeMask = modeCode s.params.regMap m

/-- A position at the write of a `MODE` in progress. -/
def Pos.isModeWrite : Pos → Bool
  | .mode _ .e2 | .send _ _ (.t1 .e2) | .send _ _ (.t6 .e2) | .send _ _ (.t7 .e2) | .rxs (.a3 .e2) => true
  | _ => false

/-- I1, and the shadow holds no mode while the write of a `MODE` is outstanding (R170). -/
def State.believes (s : State) : Prop :=
  s.shadowTrue ∧ ∀ p, s.seq = .running p → p.isModeWrite = true → s.modeShadow = none

/-- The same register: equal but for the direction bit (R81). -/
def sameRegister (r : RegMap) (a b : Byte) : Bool := a &&& ~~~r.dirMask == b &&& ~~~r.dirMask

/-- No other role of the map is at the mode register's address. -/
def opmodeApart (r : RegMap) : Bool :=
  [r.aFifo, r.aIrqFlags, r.aSync, r.aDioMap, r.aPktCfg, r.aPaLevel, r.aOcp, r.aBias1, r.aBias2].all
    fun a => !sameRegister r a r.aOpmode

/-- An operation that itself writes `A_OPMODE` otherwise than through `MODE`: what R309 asks the host not to issue. -/
def writesOpmode (r : RegMap) : Instr → Bool
  | .wr a _ | .ed a _ _ | .bwr a _ => sameRegister r a r.aOpmode
  | .setup cfg => cfg.any fun pair => sameRegister r pair.1 r.aOpmode
  | .rd _ | .brd _ _ | .pwr _ | .rstp | .sync _ | .mode _ | .waitf _ | .send _ _ | .rxs => false
  | .busW1 a _ | .busWN a _ => sameRegister r a r.aOpmode
  | .busR1 _ | .busRN _ _ | .fifoFrame _ _ _ _ _ => false

/-- The operation in progress at a position. -/
def Pos.instr : Pos → Instr
  | .rd a => .rd a
  | .wr a v => .wr a v
  | .ed a clr set _ => .ed a clr set
  | .brd a n => .brd a n
  | .bwr a bytes => .bwr a bytes
  | .pwr p _ => .pwr p
  | .rstp _ => .rstp
  | .sync s _ => .sync s
  | .setup cfg _ => .setup cfg
  | .mode m _ => .mode m
  | .waitf f _ => .waitf f
  | .send dst payload _ => .send dst payload
  | .rxs _ => .rxs

/-- The host keeps R309 in the next step: neither the operation in progress nor the command that is next writes `A_OPMODE`
otherwise than through `MODE`. -/
def State.dutyKept (s : State) : Prop :=
  (∀ p, s.seq = .running p → writesOpmode s.params.regMap p.instr = false) ∧
  (∀ op operands rest i, s.env = .cmd op operands :: rest → decodeCmd op operands = .instr i →
    writesOpmode s.params.regMap i = false)

/-! ### Answers and events -/

/-- The Board answers a two-byte frame with the echo byte `x.1` and the byte `x.2`. -/
def answer (x : Byte × Byte) : Turn := .board (.ok [x.1, x.2])

/-- The Board answers a two-byte frame, or, for `none`, fails it. -/
def answerOrErr : Option (Byte × Byte) → Turn
  | some x => answer x
  | none => .board .err

/-- A BUS-R1 frame was carried and answered. -/
def readOf (r : RegMap) (a : Byte) (x : Byte × Byte) : Event := .transfer (frameR1 r a) (some [x.1, x.2])

/-- A BUS-W1 frame was carried and answered. -/
def writeOf (r : RegMap) (a v : Byte) (x : Byte × Byte) : Event := .transfer (frameW1 r a v) (some [x.1, x.2])

/-- A BUS-R1 frame was carried and failed. -/
def readFailed (r : RegMap) (a : Byte) : Event := .transfer (frameR1 r a) none

/-- A BUS-W1 frame was carried and failed. -/
def writeFailed (r : RegMap) (a v : Byte) : Event := .transfer (frameW1 r a v) none

/-- BUS-W1 frames to the listed registers with the listed values, each answered by its entry of `xs`; `none` is `Err`. -/
def writesOf (r : RegMap) (ws : List (Byte × Byte)) (xs : List (Option (Byte × Byte))) : List Event :=
  List.zipWith (fun w x => .transfer (frameW1 r w.1 w.2) (x.map fun y => [y.1, y.2])) ws xs

/-- The four writes of the recipe for `d`, by tier, as R133 lists them. -/
def recipeWrites (p : Params) (d : Int) : List (Byte × Byte) :=
  match tier (powerSetting p d) with
  | .highPower =>
    [(p.regMap.aOcp, p.regMap.vOcpOff),
     (p.regMap.aPaLevel, p.regMap.mStage1 ||| p.regMap.mStage2 ||| (powerSetting p d).level),
     (p.regMap.aBias1, p.regMap.vBias1Boost), (p.regMap.aBias2, p.regMap.vBias2Boost)]
  | .secondStage =>
    [(p.regMap.aBias1, p.regMap.vBias1Normal), (p.regMap.aBias2, p.regMap.vBias2Normal),
     (p.regMap.aPaLevel, p.regMap.mStage1 ||| p.regMap.mStage2 ||| (powerSetting p d).level),
     (p.regMap.aOcp, p.regMap.vOcpOn)]
  | .base =>
    [(p.regMap.aBias1, p.regMap.vBias1Normal), (p.regMap.aBias2, p.regMap.vBias2Normal),
     (p.regMap.aPaLevel, p.regMap.mStage1 ||| (powerSetting p d).level), (p.regMap.aOcp, p.regMap.vOcpOn)]

/-- One attempt of a sync phase that reads something else than the sentinel: the answers to its read and its write. -/
abbrev Miss := (Byte × Byte) × (Byte × Byte)

/-- The turns of failing attempts. -/
def missTurns (ms : List Miss) : List Turn := ms.flatMap fun m => [answer m.1, answer m.2]

/-- What failing attempts carried: read, then write of the sentinel (R152). -/
def missEvents (r : RegMap) (sentinel : Byte) (ms : List Miss) : List Event :=
  ms.flatMap fun m => [readOf r r.aSync m.1, writeOf r r.aSync sentinel m.2]

/-- The next turn, if there is one, is not the sequencer's. -/
def othersNext : List Turn → Bool
  | [] => true
  | t :: _ => !t.isSequencer

/-- What the reset pulse carried when the Board answered `Ok` twice (R150). -/
def pulseEvents : List Event := [.setReset true true, .hold 100, .setReset false true, .hold 5000]

/-- The turns of a reset pulse in which the Board answers `Ok` twice. -/
def pulseTurns : List Turn := [.line true, .tick, .line true, .tick]

/-- The `MODE` of `SEND` at its write, with the poll that follows it and the flag polled (R190). -/
def sendPolls : List (SendLine × (LoopHead → SendLine) × OpMode × Flag) :=
  [(.t1 .e2, .t1w, .standby, .modeReady), (.t6 .e2, .t6w, .transmit, .packetSent), (.t7 .e2, .t7w, .standby, .modeReady)]

/-- How the first line of a loop is reached after `k` turns of the loop that did not end it. -/
def LoopHead.after (k : Nat) : LoopHead := if k = 0 then .entered else .repeated

/-- What can happen to an operation in progress: one step, or a run of lines on the turns that are the sequencer's. -/
def State.goesOnTo (s t : State) : Prop := step s = .next t ∨ t = drive s.env s

/-- `n` steps from `s` lead to `t`. -/
def stepsTo : Nat → State → State → Prop
  | 0, s, t => s = t
  | n + 1, s, t => ∃ u, step s = .next u ∧ stepsTo n u t

/-- The operands a command latches when it is accepted (R63): the Config of `SETUP`, destination and payload of `SEND`. -/
def State.latched (i : Instr) (s : State) : State :=
  match i with
  | .setup cfg => { s with cfg := cfg }
  | .send dst payload => { s with txDst := dst, txPayload := payload }
  | .rd _ | .wr _ _ | .ed _ _ _ | .brd _ _ | .bwr _ _ | .pwr _ | .rstp | .sync _ | .mode _ | .waitf _ | .rxs => s
  | .busR1 _ | .busW1 _ _ | .busRN _ _ | .busWN _ _ | .fifoFrame _ _ _ _ _ => s

/-- The first labelled line of a command (R45); of a power recipe, the first of its tier's. -/
def firstLine (q : Params) : Instr → Option Pos
  | .rd a => some (.rd a)
  | .wr a v => some (.wr a v)
  | .ed a clr set => some (.ed a clr set .e1)
  | .brd a n => some (.brd a n)
  | .bwr a bytes => some (.bwr a bytes)
  | .pwr p =>
    if tier (powerSetting q p.toInt) = .highPower then some (.pwr p .h1) else some (.pwr p .n1)
  | .rstp => some (.rstp .p1)
  | .sync s => some (.sync s (.y1 .entered))
  | .setup cfg => some (.setup cfg (.s1 .p1))
  | .mode m => some (.mode m .e1)
  | .waitf f => some (.waitf f .entered)
  | .send dst payload => some (.send dst payload (.t1 .e1))
  | .rxs => some (.rxs .a0)
  | .busR1 _ | .busW1 _ _ | .busRN _ _ | .busWN _ _ | .fifoFrame _ _ _ _ _ => none

end Sys2Proof.Machine
end

