-- ==== Sys2Proof/Certificates/Slice0/Obligations.lean ====
section
/-! DEFINITION. The statements for the provers. Every one that shows a response uses the format `[status, info] ++ value` and
the codes of R90 and R250, which the spec marks as its own (decisions D2, D3). In each, `rest` are the turns left over. -/

open Sys2Proof Sys2Proof.Machine

/-! ### Register access (40_register_access.md) -/

/-- R110: `RD` is one BUS-R1 transaction, its value is `rx[1]` whatever `rx[0]` holds, a failure is `BusError`, and no register
is written. -/
def Obligations.RdIsOneRead : Prop :=
  ∀ (s : State) (a : Byte) (rest : List Turn), s.seq = .idle →
    decodeCmd 0x01 [a] = .instr (.rd a) ∧
    (∀ echo v : Byte, s.env = .board (.ok [echo, v]) :: rest →
      exec (.rd a) s = .next { s with
        env := rest, busRx := some [echo, v]
        trace := s.trace ++ [.transfer [addrByte s.params.regMap a .read, s.params.regMap.fill] (some [echo, v]),
          .response [0x00, 0x00, v]] }) ∧
    (s.env = .board .err :: rest →
      exec (.rd a) s = .next { s with
        env := rest, busRx := none
        trace := s.trace ++ [.transfer [addrByte s.params.regMap a .read, s.params.regMap.fill] none,
          .response [0x01, addrByte s.params.regMap a .read]] })

/-- R112: `WR` is one BUS-W1 transaction, `rx` is discarded whole, a failure is `BusError`, and no register is written. -/
def Obligations.WrIsOneWrite : Prop :=
  ∀ (s : State) (a v : Byte) (rest : List Turn), s.seq = .idle →
    decodeCmd 0x02 [a, v] = .instr (.wr a v) ∧
    (∀ x y : Byte, s.env = .board (.ok [x, y]) :: rest →
      exec (.wr a v) s = .next { s with
        env := rest, busRx := some [x, y]
        trace := s.trace ++ [.transfer [addrByte s.params.regMap a .write, v] (some [x, y]), .response [0x00, 0x00]] }) ∧
    (s.env = .board .err :: rest →
      exec (.wr a v) s = .next { s with
        env := rest, busRx := none
        trace := s.trace ++ [.transfer [addrByte s.params.regMap a .write, v] none,
          .response [0x01, addrByte s.params.regMap a .write]] })

/-- R114 with the transform of R91: a read, then a write of `(v & ~clr) | set`, made even when it changes nothing; one
transaction when the read fails, two otherwise; the info byte tells which failed; `edit_old` holds the value read. -/
def Obligations.EdReadsThenWrites : Prop :=
  ∀ (s : State) (a clr set : Byte) (rest : List Turn), s.seq = .idle →
    decodeCmd 0x03 [a, clr, set] = .instr (.ed a clr set) ∧
    (∀ x y : Byte × Byte, s.env = answer x :: answer y :: rest →
      exec (.ed a clr set) s = .next { s with
        env := rest, busRx := some [y.1, y.2], editOld := x.2
        trace := s.trace ++ [readOf s.params.regMap a x, writeOf s.params.regMap a ((x.2 &&& ~~~clr) ||| set) y,
          .response [0x00, 0x00]] }) ∧
    (s.env = .board .err :: rest →
      exec (.ed a clr set) s = .next { s with
        env := rest, busRx := none
        trace := s.trace ++ [readFailed s.params.regMap a, .response [0x01, addrByte s.params.regMap a .read]] }) ∧
    (∀ x : Byte × Byte, s.env = answer x :: .board .err :: rest →
      exec (.ed a clr set) s = .next { s with
        env := rest, busRx := none, editOld := x.2
        trace := s.trace ++ [readOf s.params.regMap a x, writeFailed s.params.regMap a ((x.2 &&& ~~~clr) ||| set),
          .response [0x01, addrByte s.params.regMap a .write]] })

/-- R116: `BRD` is one transaction of 1 + n bytes and returns the n bytes after the echo byte; n = 0 sends the address byte
alone; n = 1 is `RD`. -/
def Obligations.BrdReadsInOneTransfer : Prop :=
  ∀ (s : State) (a n : Byte) (rest : List Turn), s.seq = .idle →
    decodeCmd 0x04 [a, n] = .instr (.brd a n) ∧
    (∀ (echo : Byte) (d : List Byte), d.length = n.toNat → s.env = .board (.ok (echo :: d)) :: rest →
      exec (.brd a n) s = .next { s with
        env := rest, busRx := some (echo :: d)
        trace := s.trace ++
          [.transfer (addrByte s.params.regMap a .read :: List.replicate n.toNat s.params.regMap.fill) (some (echo :: d)),
           .response (0x00 :: 0x00 :: d)] }) ∧
    (s.env = .board .err :: rest →
      exec (.brd a n) s = .next { s with
        env := rest, busRx := none
        trace := s.trace ++ [.transfer (addrByte s.params.regMap a .read :: List.replicate n.toNat s.params.regMap.fill) none,
          .response [0x01, addrByte s.params.regMap a .read]] })

/-- R118: `BWR` is one transaction of the address byte and the bytes in order; `rx` is discarded whole. -/
def Obligations.BwrWritesInOneTransfer : Prop :=
  ∀ (s : State) (a n : Byte) (bytes : List Byte) (rest : List Turn), s.seq = .idle → bytes.length = n.toNat →
    decodeCmd 0x05 (a :: n :: bytes) = .instr (.bwr a bytes) ∧
    (∀ rx : List Byte, rx.length = bytes.length + 1 → s.env = .board (.ok rx) :: rest →
      exec (.bwr a bytes) s = .next { s with
        env := rest, busRx := some rx
        trace := s.trace ++ [.transfer (addrByte s.params.regMap a .write :: bytes) (some rx), .response [0x00, 0x00]] }) ∧
    (s.env = .board .err :: rest →
      exec (.bwr a bytes) s = .next { s with
        env := rest, busRx := none
        trace := s.trace ++ [.transfer (addrByte s.params.regMap a .write :: bytes) none,
          .response [0x01, addrByte s.params.regMap a .write]] })

/-! ### Bus frames and the FIFO frame (30_encoding.md) -/

/-- R81: the direction bit of the operand is overwritten, so operands that differ only there give the same address byte, and
the other seven bits pass (D5, D6 are the spec's own). -/
def Obligations.DirectionBitOverwritten : Prop :=
  ∀ (p : Params) (a : Byte),
    addrByte p.regMap a .read = (a &&& ~~~p.regMap.dirMask) ||| p.regMap.dirRead ∧
    addrByte p.regMap a .write = (a &&& ~~~p.regMap.dirMask) ||| p.regMap.dirWrite ∧
    addrByte p.regMap a .read ≠ addrByte p.regMap a .write ∧
    ∀ d : Dir,
      addrByte p.regMap (a ^^^ p.regMap.dirMask) d = addrByte p.regMap a d ∧
      addrByte p.regMap a d &&& ~~~p.regMap.dirMask = a &&& ~~~p.regMap.dirMask

/-- R80: whatever transaction the sequencer waits for, at any position, is one address byte followed by data bytes, and the
data bytes of a read are `FILL`. -/
def Obligations.TransfersAreBusFrames : Prop :=
  ∀ (s : State) (tx : List Byte), s.outstanding = some tx →
    ∃ a : Byte, (∃ n : Nat, tx = addrByte s.params.regMap a .read :: List.replicate n s.params.regMap.fill) ∨
      (∃ data : List Byte, tx = addrByte s.params.regMap a .write :: data)

/-- R82, R84 as the model reads their rows (log 8): a read frame is one transaction that changes no register of the RAC, and
BUS-R1 is BUS-RN with n = 1. -/
def Obligations.BusReadFrames : Prop :=
  ∀ (s : State) (a : Byte) (n : Nat) (rest : List Turn),
    exec (.busR1 a) s = exec (.busRN a 1) s ∧
    (∀ rx : List Byte, rx.length = n + 1 → s.env = .board (.ok rx) :: rest →
      exec (.busRN a n) s = .next { s with
        env := rest, busRx := some rx
        trace := s.trace ++ [.transfer (addrByte s.params.regMap a .read :: List.replicate n s.params.regMap.fill) (some rx)] }) ∧
    (s.env = .board .err :: rest →
      exec (.busRN a n) s = .next { s with
        env := rest, busRx := none
        trace := s.trace ++ [.transfer (addrByte s.params.regMap a .read :: List.replicate n s.params.regMap.fill) none] })

/-- R83, R85 as the model reads their rows (log 8): a write frame is one transaction that changes no register of the RAC, and
BUS-W1 is BUS-WN with n = 1. -/
def Obligations.BusWriteFrames : Prop :=
  ∀ (s : State) (a v : Byte) (bytes : List Byte) (rest : List Turn),
    exec (.busW1 a v) s = exec (.busWN a [v]) s ∧
    (∀ rx : List Byte, rx.length = bytes.length + 1 → s.env = .board (.ok rx) :: rest →
      exec (.busWN a bytes) s = .next { s with
        env := rest, busRx := some rx
        trace := s.trace ++ [.transfer (addrByte s.params.regMap a .write :: bytes) (some rx)] }) ∧
    (s.env = .board .err :: rest →
      exec (.busWN a bytes) s = .next { s with
        env := rest, busRx := none
        trace := s.trace ++ [.transfer (addrByte s.params.regMap a .write :: bytes) none] })

/-- R86 as the model reads its row (log 9): the FIFO frame is pushed by one burst write at `A_FIFO`, length byte first. -/
def Obligations.FifoFramePushed : Prop :=
  ∀ (s : State) (len dst src ctl : Byte) (payload : List Byte) (rest : List Turn) (rx : List Byte),
    rx.length = payload.length + 5 → s.env = .board (.ok rx) :: rest →
      exec (.fifoFrame len dst src ctl payload) s = .next { s with
        env := rest, busRx := some rx
        trace := s.trace ++ [.transfer
          (addrByte s.params.regMap s.params.regMap.aFifo .write :: len :: dst :: src :: ctl :: payload) (some rx)] }

/-! ### Transmit power (41_power.md) -/

/-- R130 with the recipe of R133: `PWR` clamps to -2 to 20, stores, and makes the tier's four writes in order. -/
def Obligations.PwrStoresAndApplies : Prop :=
  ∀ (s : State) (p : Byte) (x1 x2 x3 x4 : Byte × Byte) (rest : List Turn), s.seq = .idle →
    s.env = answer x1 :: answer x2 :: answer x3 :: answer x4 :: rest →
    exec (.pwr p) s = .next { s with
      env := rest, busRx := some [x4.1, x4.2], txPower := some (max (-2) (min 20 p.toInt))
      trace := s.trace ++ writesOf s.params.regMap (recipeWrites s.params (max (-2) (min 20 p.toInt)))
        [some x1, some x2, some x3, some x4] ++ [.response [0x00, 0x00]] }

/-- R131 and R135 under `strict`: the write that fails ends `PWR`; the writes before it were made, those after it are not, and
the clamped value is stored. -/
def Obligations.PwrStrictFailure : Prop :=
  ∀ (s : State) (p : Byte) (xs : List (Byte × Byte)) (rest : List Turn), s.seq = .idle →
    s.params.pokePolicy = .strict → xs.length < 4 → s.env = xs.map answer ++ .board .err :: rest →
    let ws := recipeWrites s.params (max (-2) (min 20 p.toInt))
    exec (.pwr p) s = .next { s with
      env := rest, busRx := none, txPower := some (max (-2) (min 20 p.toInt))
      trace := s.trace ++ writesOf s.params.regMap (ws.take (xs.length + 1)) (xs.map some ++ [none]) ++
        [.response [0x01, addrByte s.params.regMap (ws.getD xs.length (0, 0)).1 .write]] }

/-- R133 under `best_effort`: a failing write is skipped, the remaining writes are still made, and `PWR` answers `Ok` whatever
failed (the discarding is the spec's own choice D9). -/
def Obligations.PwrBestEffort : Prop :=
  ∀ (s : State) (p : Byte) (y1 y2 y3 y4 : Option (Byte × Byte)) (rest : List Turn), s.seq = .idle →
    s.params.pokePolicy = .bestEffort →
    s.env = answerOrErr y1 :: answerOrErr y2 :: answerOrErr y3 :: answerOrErr y4 :: rest →
    exec (.pwr p) s = .next { s with
      env := rest, busRx := y4.map (fun y => [y.1, y.2]), txPower := some (max (-2) (min 20 p.toInt))
      trace := s.trace ++ writesOf s.params.regMap (recipeWrites s.params (max (-2) (min 20 p.toInt))) [y1, y2, y3, y4] ++
        [.response [0x00, 0x00]] }

/-- R132: for every integer the row at index `clamp(d, -2, 20) + 2` of the 23, and exactly one tier, told by its two flags. -/
def Obligations.PowerSettingOfTable : Prop :=
  ∀ (p : Params) (d : Int),
    (∃ h : (max (-2) (min 20 d) + 2).toNat < 23,
      powerSetting p d = p.powerTable[(max (-2) (min 20 d) + 2).toNat]) ∧
    (tier (powerSetting p d) = .highPower ↔ (powerSetting p d).useHighPower = true) ∧
    (tier (powerSetting p d) = .secondStage ↔
      (powerSetting p d).useSecondStage = true ∧ (powerSetting p d).useHighPower = false) ∧
    (tier (powerSetting p d) = .base ↔
      (powerSetting p d).useSecondStage = false ∧ (powerSetting p d).useHighPower = false)

/-- R131: `tx_power` changes only in a step of `PWR` or of `SETUP`, whose last step is one, and at block reset. -/
def Obligations.TxPowerWriters : Prop :=
  ∀ (s t : State), step s = .next t → t.txPower ≠ s.txPower →
    (∃ p, s.seq = .running p ∧ ((∃ q l, p = .pwr q l) ∨ ∃ cfg l, p = .setup cfg (.s5 l))) ∨
    (∃ rest, s.env = .blockReset :: rest)

/-! ### Reset pulse, handshake, set-up (42_sync.md) -/

/-- R150: the pulse, its two holds, and the two ways the Board can fail it (the error kind is the spec's own, D11). -/
def Obligations.RstpPulses : Prop :=
  ∀ (s : State) (rest : List Turn), s.seq = .idle →
    (s.env = .line true :: .tick :: .line true :: .tick :: rest →
      exec .rstp s = .next { s with
        env := rest, setupDone := false, modeShadow := none
        trace := s.trace ++ [.setReset true true, .hold 100, .setReset false true, .hold 5000, .response [0x00, 0x00]] }) ∧
    (s.env = .line false :: rest →
      exec .rstp s = .next { s with
        env := rest, setupDone := false, modeShadow := none
        trace := s.trace ++ [.setReset true false, .response [0x03, 0x01]] }) ∧
    (s.env = .line true :: .tick :: .line false :: rest →
      exec .rstp s = .next { s with
        env := rest, setupDone := false, modeShadow := none
        trace := s.trace ++ [.setReset true true, .hold 100, .setReset false false, .response [0x03, 0x00]] })

/-- R152: after fewer than fifteen attempts that read something else, a read of the sentinel ends the phase well, with no
write. That `attempt` keeps its value afterwards is the model's choice (log 7). -/
def Obligations.SyncSucceeds : Prop :=
  ∀ (s : State) (sentinel : Byte) (ms : List Miss) (x : Byte × Byte) (rest : List Turn), s.seq = .idle →
    ms.length < 15 → (∀ m ∈ ms, m.1.2 ≠ sentinel) → x.2 = sentinel → s.env = missTurns ms ++ answer x :: rest →
    exec (.sync sentinel) s = .next { s with
      env := rest, busRx := some [x.1, x.2], attempt := ms.length + 1
      trace := s.trace ++ missEvents s.params.regMap sentinel ms ++
        [readOf s.params.regMap s.params.regMap.aSync x, .response [0x00, 0x00]] }

/-- R154, R252: fifteen attempts without the sentinel, the fifteenth write made, give `NotSyncing`. That `attempt` keeps 15
afterwards is the model's choice (log 7). -/
def Obligations.SyncFailsAfterFifteen : Prop :=
  ∀ (s : State) (sentinel : Byte) (ms : List Miss) (rest : List Turn), s.seq = .idle →
    ms.length = 15 → (∀ m ∈ ms, m.1.2 ≠ sentinel) → s.env = missTurns ms ++ rest →
    exec (.sync sentinel) s = .next { s with
      env := rest, busRx := (ms.getLast?).map (fun m => [m.2.1, m.2.2]), attempt := 15
      trace := s.trace ++ missEvents s.params.regMap sentinel ms ++ [.response [0x02, sentinel]] }

/-- R154 "never a silent pass": whatever the Board answers, `Ok` is answered only after a read that returned the sentinel, and
within thirty transactions; the same of a step or a run of lines that takes `SYNC` up at either of its lines, with the
transactions that are left at that attempt, counted as log 6 reads R13. That block reset makes no response is the model's
choice (log 20). -/
def Obligations.SyncNeverPassesSilently : Prop :=
  ∀ (s t : State) (sentinel : Byte),
    ((s.seq = .idle ∧ exec (.sync sentinel) s = .next t) ∨
      ((∃ l, s.seq = .running (.sync sentinel l)) ∧ s.goesOnTo t)) →
    ∃ es : List Event, t.trace = s.trace ++ es ∧
      (.response [0x00, 0x00] ∈ es →
        ∃ x : Byte × Byte, x.2 = sentinel ∧ readOf s.params.regMap s.params.regMap.aSync x ∈ es) ∧
      (s.seq = .idle → es.length ≤ 31) ∧
      (s.seq = .running (.sync sentinel (.y1 .entered)) → es.length ≤ 31) ∧
      ((∃ l, l ≠ .y1 .entered ∧ s.seq = .running (.sync sentinel l)) → s.Inv → es.length + 2 * s.attempt ≤ 33)

/-- R158: the pulse, both phases, the Config in its order, `PWR INITIAL_POWER` (13 by reference); then `setup_done` is 1. What
`cfg` and `cfg_i` hold afterwards is left out; that `attempt` keeps the second phase's count is the model's choice (log 7). -/
def Obligations.SetupCompletes : Prop :=
  ∀ (s : State) (cfg : List (Byte × Byte)) (ms1 ms2 : List Miss) (x1 x2 y1 y2 y3 y4 : Byte × Byte)
    (cs : List (Byte × Byte)) (rest : List Turn), s.seq = .idle →
    ms1.length < 15 → (∀ m ∈ ms1, m.1.2 ≠ 0xAA) → x1.2 = 0xAA →
    ms2.length < 15 → (∀ m ∈ ms2, m.1.2 ≠ 0x55) → x2.2 = 0x55 →
    cs.length = cfg.length →
    s.env = pulseTurns ++ missTurns ms1 ++ answer x1 :: missTurns ms2 ++ answer x2 :: cs.map answer ++
      answer y1 :: answer y2 :: answer y3 :: answer y4 :: rest →
    ∃ t : State, exec (.setup cfg) s = .next t ∧
      t = { s with
        env := rest, busRx := some [y4.1, y4.2], setupDone := true, modeShadow := none
        txPower := some (max (-2) (min 20 s.params.initialPower))
        attempt := ms2.length + 1, cfg := t.cfg, cfgI := t.cfgI
        trace := s.trace ++ pulseEvents ++
          missEvents s.params.regMap 0xAA ms1 ++ [readOf s.params.regMap s.params.regMap.aSync x1] ++
          missEvents s.params.regMap 0x55 ms2 ++ [readOf s.params.regMap s.params.regMap.aSync x2] ++
          writesOf s.params.regMap cfg (cs.map some) ++
          writesOf s.params.regMap (recipeWrites s.params s.params.initialPower) [some y1, some y2, some y3, some y4] ++
          [.response [0x00, 0x00]] }

/-- R158: a phase that fails, the first or the second, ends `SETUP` there with `NotSyncing` of its sentinel: no further phase, no
Config write, no power write, `setup_done` 0. That `attempt` keeps 15 is the model's choice (log 7). -/
def Obligations.SetupHandshakeFailure : Prop :=
  ∀ (s : State) (cfg : List (Byte × Byte)) (rest : List Turn), s.seq = .idle →
    (∀ ms : List Miss, ms.length = 15 → (∀ m ∈ ms, m.1.2 ≠ 0xAA) → s.env = pulseTurns ++ missTurns ms ++ rest →
      ∃ t : State, exec (.setup cfg) s = .next t ∧
        t = { s with
          env := rest, busRx := t.busRx, setupDone := false, modeShadow := none
          attempt := 15, cfg := t.cfg, cfgI := t.cfgI
          trace := s.trace ++ pulseEvents ++ missEvents s.params.regMap 0xAA ms ++ [.response [0x02, 0xAA]] }) ∧
    (∀ (ms1 ms2 : List Miss) (x : Byte × Byte), ms1.length < 15 → (∀ m ∈ ms1, m.1.2 ≠ 0xAA) → x.2 = 0xAA →
      ms2.length = 15 → (∀ m ∈ ms2, m.1.2 ≠ 0x55) →
      s.env = pulseTurns ++ missTurns ms1 ++ answer x :: missTurns ms2 ++ rest →
      ∃ t : State, exec (.setup cfg) s = .next t ∧
        t = { s with
          env := rest, busRx := t.busRx, setupDone := false, modeShadow := none
          attempt := 15, cfg := t.cfg, cfgI := t.cfgI
          trace := s.trace ++ pulseEvents ++
            missEvents s.params.regMap 0xAA ms1 ++ [readOf s.params.regMap s.params.regMap.aSync x] ++
            missEvents s.params.regMap 0x55 ms2 ++ [.response [0x02, 0x55]] })

/-- R158, R24: whatever the Board answers, a `SETUP` that has ended either answered `Ok` with `setup_done` 1 and the power at
`INITIAL_POWER`, or answered an error with `setup_done` 0; the same of a step or a run of lines that takes `SETUP` up at any of
its lines and ends it by the sequencer's turns. -/
def Obligations.SetupEndsDoneOrFailed : Prop :=
  ∀ (s t : State) (cfg : List (Byte × Byte)),
    ((s.seq = .idle ∧ exec (.setup cfg) s = .next t) ∨
      (s.Inv ∧ (∃ l, s.seq = .running (.setup cfg l)) ∧ (∀ rest, s.env ≠ .blockReset :: rest) ∧ s.goesOnTo t)) →
    t.seq = .idle →
    (t.setupDone = true ∧ t.txPower = some (max (-2) (min 20 s.params.initialPower)) ∧
      ∃ es, t.trace = s.trace ++ es ++ [.response [0x00, 0x00]]) ∨
    (t.setupDone = false ∧ ∃ es code info, code ≠ 0x00 ∧ t.trace = s.trace ++ es ++ [.response [code, info]])

/-- R24: `setup_done` rises only in the step that ends a `SETUP`, and falls only in a step of the reset pulse of `RSTP` or
`SETUP` or at block reset. -/
def Obligations.SetupDoneWriters : Prop :=
  ∀ (s t : State), step s = .next t → t.setupDone ≠ s.setupDone →
    (t.setupDone = false ∧ ((∃ l, s.seq = .running (.rstp l)) ∨ ∃ cfg l, s.seq = .running (.setup cfg (.s1 l)))) ∨
    (t.setupDone = true ∧ t.seq = .idle ∧ ∃ cfg l, s.seq = .running (.setup cfg (.s5 l))) ∨
    (t.setupDone = false ∧ ∃ rest, s.env = .blockReset :: rest)

/-! ### Mode and poll (43_mode.md) -/

/-- R170: the mode field is replaced, every other bit is written back as read, both transactions are always made, and the
shadow takes the mode. -/
def Obligations.ModeReplacesField : Prop :=
  ∀ (s : State) (m : OpMode) (x y : Byte × Byte) (rest : List Turn), s.seq = .idle →
    s.env = answer x :: answer y :: rest →
    exec (.mode m) s = .next { s with
      env := rest, busRx := some [y.1, y.2], modeShadow := some m, editOld := x.2
      trace := s.trace ++ [readOf s.params.regMap s.params.regMap.aOpmode x,
        writeOf s.params.regMap s.params.regMap.aOpmode
          ((x.2 &&& ~~~s.params.regMap.modeMask) ||| modeCode s.params.regMap m) y,
        .response [0x00, 0x00]] }

/-- R170, R122: a failing read or write leaves the shadow without a value; `strict` reports it, `best_effort` answers `Ok`, and
after a failed read no write is made (discarding a failed read is the spec's own choice D9). -/
def Obligations.ModeFailures : Prop :=
  ∀ (s : State) (m : OpMode) (rest : List Turn), s.seq = .idle →
    let r := s.params.regMap
    (s.env = .board .err :: rest →
      exec (.mode m) s = .next { s with
        env := rest, busRx := none, modeShadow := none
        trace := s.trace ++ [readFailed r r.aOpmode,
          .response (if s.params.pokePolicy = .strict then [0x01, addrByte r r.aOpmode .read] else [0x00, 0x00])] }) ∧
    (∀ x : Byte × Byte, s.env = answer x :: .board .err :: rest →
      exec (.mode m) s = .next { s with
        env := rest, busRx := none, modeShadow := none, editOld := x.2
        trace := s.trace ++ [readOf r r.aOpmode x, writeFailed r r.aOpmode ((x.2 &&& ~~~r.modeMask) ||| modeCode r m),
          .response (if s.params.pokePolicy = .strict then [0x01, addrByte r r.aOpmode .write] else [0x00, 0x00])] })

/-- R175: reads that show the flag clear are repeated, within the bound where there is one; the first that shows it set ends
the poll well. That `polls` keeps its count, and counts without a bound too, is the model's choice (log 7). -/
def Obligations.WaitfReturnsWhenSet : Prop :=
  ∀ (s : State) (f : Flag) (zs : List (Byte × Byte)) (x : Byte × Byte) (rest : List Turn), s.seq = .idle →
    (∀ n, s.params.pollLimit = some n → zs.length < n) →
    (∀ z ∈ zs, z.2 &&& flagMask s.params.regMap f = 0) → x.2 &&& flagMask s.params.regMap f ≠ 0 →
    s.env = zs.map answer ++ answer x :: rest →
    exec (.waitf f) s = .next { s with
      env := rest, busRx := some [x.1, x.2], polls := zs.length
      trace := s.trace ++ zs.map (readOf s.params.regMap (flagAddr s.params.regMap f)) ++
        [readOf s.params.regMap (flagAddr s.params.regMap f) x, .response [0x00, 0x00]] }

/-- R175: with `POLL_LIMIT = N` exactly N reads are made before `PollTimeout`; a failing read is `BusError` under either poke
policy; the three polls of `SEND`, which start with the answer to the write of the `MODE` before them, end it in the same way
(R190, R198), one step for each line. That `polls` keeps its count afterwards, and counts without a bound too, is the model's
choice (log 7); that it is as before until the first `F1` is R13 as the model reads it (log 6). -/
def Obligations.WaitfEndsWithError : Prop :=
  ∀ (s : State) (f : Flag) (zs : List (Byte × Byte)) (rest : List Turn),
    (∀ z ∈ zs, z.2 &&& flagMask s.params.regMap f = 0) →
    (s.seq = .idle → s.params.pollLimit = some zs.length → s.env = zs.map answer ++ rest →
      exec (.waitf f) s = .next { s with
        env := rest, busRx := (zs.getLast?).map (fun z => [z.1, z.2]), polls := zs.length
        trace := s.trace ++ zs.map (readOf s.params.regMap (flagAddr s.params.regMap f)) ++
          [.response [0x06, if f = .modeReady then 0 else 1]] }) ∧
    (s.seq = .idle → (∀ n, s.params.pollLimit = some n → zs.length < n) → s.env = zs.map answer ++ .board .err :: rest →
      exec (.waitf f) s = .next { s with
        env := rest, busRx := none, polls := zs.length
        trace := s.trace ++ zs.map (readOf s.params.regMap (flagAddr s.params.regMap f)) ++
          [readFailed s.params.regMap (flagAddr s.params.regMap f),
           .response [0x01, addrByte s.params.regMap (flagAddr s.params.regMap f) .read]] }) ∧
    (∀ (dst : Byte) (payload : List Byte) (l : SendLine) (lw : LoopHead → SendLine) (m : OpMode) (y : Byte × Byte),
      (l, lw, m, f) ∈ sendPolls → s.seq = .running (.send dst payload l) →
      let r := s.params.regMap
      let modeWrite : Event := writeOf r r.aOpmode ((s.editOld &&& ~~~r.modeMask) ||| modeCode r m) y
      (s.params.pollLimit = some zs.length → s.env = answer y :: zs.map answer ++ rest →
        stepsTo (zs.length + 1) s { s with
          seq := .idle, env := rest, busRx := (zs.getLast?).map (fun z => [z.1, z.2]), polls := zs.length
          modeShadow := some m
          trace := s.trace ++ [modeWrite] ++ zs.map (readOf r (flagAddr r f)) ++
            [.response [0x06, if f = .modeReady then 0 else 1]] }) ∧
      ((∀ n, s.params.pollLimit = some n → zs.length < n) → s.env = answer y :: zs.map answer ++ .board .err :: rest →
        stepsTo (zs.length + 2) s { s with
          seq := .idle, env := rest, busRx := none, polls := zs.length, modeShadow := some m
          trace := s.trace ++ [modeWrite] ++ zs.map (readOf r (flagAddr r f)) ++
            [readFailed r (flagAddr r f), .response [0x01, addrByte r (flagAddr r f) .read]] }) ∧
      ((∀ n, s.params.pollLimit = some n → zs.length < n) → s.env = answer y :: zs.map answer ++ rest →
        stepsTo (zs.length + 1) s { s with
          seq := .running (.send dst payload (lw (.after zs.length))), env := rest, modeShadow := some m
          polls := if zs = [] then s.polls else zs.length
          busRx := some (((zs.getLast?).map (fun z => [z.1, z.2])).getD [y.1, y.2])
          trace := s.trace ++ [modeWrite] ++ zs.map (readOf r (flagAddr r f)) }))

/-- R176 with `POLL_LIMIT = inf`: however long the chip leaves the flag clear, `WAITF` is still at `F1`. -/
def Obligations.WaitfSpins : Prop :=
  ∀ (s : State) (f : Flag) (zs : List (Byte × Byte)) (rest : List Turn), s.seq = .idle → s.params.pollLimit = none →
    (∀ z ∈ zs, z.2 &&& flagMask s.params.regMap f = 0) → othersNext rest = true → s.env = zs.map answer ++ rest →
    ∃ t : State, exec (.waitf f) s = .next t ∧ t.spinning = true ∧ t.seq = .running (.waitf f (.after zs.length)) ∧
      t.env = rest ∧
      t.trace = s.trace ++ zs.map (readOf s.params.regMap (flagAddr s.params.regMap f))

/-- R176: whatever the Board answers, `WAITF` never answers `Ok` without a read that shows the flag set, and with
`POLL_LIMIT = inf` never answers `PollTimeout`; the same of a step or a run of lines that takes `WAITF` up at `F1`. That block
reset makes no response is the model's choice (log 20). -/
def Obligations.WaitfNeverEndsUnset : Prop :=
  ∀ (s t : State) (f : Flag),
    ((s.seq = .idle ∧ exec (.waitf f) s = .next t) ∨ ((∃ h, s.seq = .running (.waitf f h)) ∧ s.goesOnTo t)) →
    ∃ es : List Event, t.trace = s.trace ++ es ∧
      (.response [0x00, 0x00] ∈ es →
        ∃ x : Byte × Byte, x.2 &&& flagMask s.params.regMap f ≠ 0 ∧
          readOf s.params.regMap (flagAddr s.params.regMap f) x ∈ es) ∧
      (s.params.pollLimit = none → ∀ info, .response [0x06, info] ∉ es)

/-! ### Transmit (44_transmit.md) -/

/-- R190 to R197: the eleven steps of `SEND` in order, each poll repeated while its flag is clear, the frame of R195, the
configured power before and `IDLE_POWER` (-2 by reference) after, `tx_power` not written. That `polls` keeps the last poll's
count is the model's choice (log 7). -/
def Obligations.SendCompletes : Prop :=
  ∀ (s : State) (dst : Byte) (payload : List Byte) (q : Int) (x1 x2 x3 x4 x5 x6 p1 p2 p3 c d : Byte × Byte)
    (w1 w2 w3 w4 v1 v2 v3 v4 : Byte × Byte) (zs1 zs2 zs3 : List (Byte × Byte)) (rx : List Byte) (rest : List Turn),
    let r := s.params.regMap
    s.seq = .idle → s.setupDone = true → s.txPower = some q → payload.length ≤ 252 →
    (∀ n, s.params.pollLimit = some n → zs1.length < n ∧ zs2.length < n ∧ zs3.length < n) →
    (∀ z ∈ zs1 ++ zs3, z.2 &&& r.mModeReady = 0) → p1.2 &&& r.mModeReady ≠ 0 → p3.2 &&& r.mModeReady ≠ 0 →
    (∀ z ∈ zs2, z.2 &&& r.mPacketSent = 0) → p2.2 &&& r.mPacketSent ≠ 0 →
    rx.length = payload.length + 5 →
    s.env = [answer x1, answer x2] ++ zs1.map answer ++ [answer p1, answer c, answer w1, answer w2, answer w3, answer w4,
      answer d, .board (.ok rx), answer x3, answer x4] ++ zs2.map answer ++ [answer p2, answer x5, answer x6] ++
      zs3.map answer ++ [answer p3, answer v1, answer v2, answer v3, answer v4] ++ rest →
    exec (.send dst payload) s = .next { s with
      env := rest, busRx := some [v4.1, v4.2], modeShadow := some .standby, editOld := x5.2, polls := zs3.length
      txDst := dst, txPayload := payload
      trace := s.trace ++
        [readOf r r.aOpmode x1, writeOf r r.aOpmode ((x1.2 &&& ~~~r.modeMask) ||| r.modeStandby) x2] ++
        zs1.map (readOf r r.aModeReady) ++ [readOf r r.aModeReady p1, writeOf r r.aIrqFlags r.vFifoClear c] ++
        writesOf r (recipeWrites s.params q) [some w1, some w2, some w3, some w4] ++
        [writeOf r r.aDioMap r.vDioMapTx d,
         .transfer (addrByte r r.aFifo .write :: BitVec.ofNat 8 (payload.length + 3) :: dst :: s.params.nodeAddr :: 0x00 ::
           payload) (some rx),
         readOf r r.aOpmode x3, writeOf r r.aOpmode ((x3.2 &&& ~~~r.modeMask) ||| r.modeTransmit) x4] ++
        zs2.map (readOf r r.aPacketSent) ++
        [readOf r r.aPacketSent p2, readOf r r.aOpmode x5,
         writeOf r r.aOpmode ((x5.2 &&& ~~~r.modeMask) ||| r.modeStandby) x6] ++
        zs3.map (readOf r r.aModeReady) ++ [readOf r r.aModeReady p3] ++
        writesOf r (recipeWrites s.params s.params.idlePower) [some v1, some v2, some v3, some v4] ++ [.response [0x00, 0x00]] }

/-! ### Receive (45_receive.md) -/

/-- R210 to R216: the start, the test of payload-ready, the restart where it is set (one bit set, the other seven preserved), and
the arm; no poll follows the mode request; the pipeline is then at `W2`. That `A1r` is no step where the flag is clear is the
model's choice (log 21). -/
def Obligations.RxsArms : Prop :=
  ∀ (s : State) (f u v d x y b1 b2 : Byte × Byte) (rest : List Turn),
    let r := s.params.regMap
    let arm : List Event := [writeOf r r.aDioMap r.vDioMapRx d, readOf r r.aOpmode x,
      writeOf r r.aOpmode ((x.2 &&& ~~~r.modeMask) ||| r.modeReceive) y,
      writeOf r r.aBias1 r.vBias1Normal b1, writeOf r r.aBias2 r.vBias2Normal b2]
    s.seq = .idle → s.setupDone = true → othersNext rest = true →
    (f.2 &&& r.mPayloadReady = 0 →
      s.env = .tick :: answer f :: answer d :: answer x :: answer y :: answer b1 :: answer b2 :: rest →
      exec .rxs s = .next { s with
        seq := .running (.rxs .w2), env := rest, busRx := some [b2.1, b2.2]
        evtPending := false, arbEnabled := true, errSlot := none, flags := f.2, editOld := x.2, modeShadow := some .receive
        trace := s.trace ++ [readOf r r.aPayloadReady f] ++ arm }) ∧
    (f.2 &&& r.mPayloadReady ≠ 0 →
      s.env = .tick :: answer f :: answer u :: answer v :: answer d :: answer x :: answer y :: answer b1 :: answer b2 :: rest →
      exec .rxs s = .next { s with
        seq := .running (.rxs .w2), env := rest, busRx := some [b2.1, b2.2]
        evtPending := false, arbEnabled := true, errSlot := none, flags := f.2, editOld := x.2, modeShadow := some .receive
        trace := s.trace ++ [readOf r r.aPayloadReady f, readOf r r.aPktCfg u,
          writeOf r r.aPktCfg (u.2 ||| r.mRestartRx) v] ++ arm })

/-- R222: `W2` blocks while the latch is clear; with it set, one step passes `W2` and clears it. -/
def Obligations.WaitConsumesLatch : Prop :=
  ∀ (s : State) (rest : List Turn), s.seq = .running (.rxs .w2) → s.env = .tick :: rest →
    (s.evtPending = false → step s = .next { s with env := rest }) ∧
    (s.evtPending = true →
      step s = .next { s with env := rest, evtPending := false, seq := .running (.rxs .l3) })

/-- R223 to R227 and R229: RSSI, header, payload, packet; the next line is `A1`, and the latch is not touched. -/
def Obligations.RxsDrainsAndEmits : Prop :=
  ∀ (s : State) (x : Byte × Byte) (e total dst src ctl e' : Byte) (d : List Byte) (rest : List Turn),
    let r := s.params.regMap
    s.seq = .running (.rxs .l3) → 3 ≤ total.toNat → d.length = total.toNat - 3 →
    s.env = answer x :: .board (.ok [e, total, dst, src, ctl]) :: .board (.ok (e' :: d)) :: .accept :: rest →
    stepsTo 4 s { s with
      seq := .running (.rxs .a1), env := rest, busRx := some (e' :: d)
      rssiRaw := x.2, rssi := Int.tdiv (-(x.2.toNat : Int)) 2
      hTotal := total, hDst := dst, hSrc := src, hCtl := ctl, plen := (total.toNat : Int) - 3, rxBuf := d
      pktOut := ⟨src, dst, Int.tdiv (-(x.2.toNat : Int)) 2, d⟩
      trace := s.trace ++ [readOf r r.aRssi x,
        .transfer [addrByte r r.aFifo .read, r.fill, r.fill, r.fill, r.fill] (some [e, total, dst, src, ctl]),
        .transfer (addrByte r r.aFifo .read :: List.replicate (total.toNat - 3) r.fill) (some (e' :: d)),
        .packet ⟨src, dst, Int.tdiv (-(x.2.toNat : Int)) 2, d⟩] }

/-- R225, R254: a length byte below 3 is a protocol error in the step that drained the header; no payload burst, no packet; the
pipeline ends (that it ends is the spec's own choice D23). What the header and payload registers hold afterwards is left
out. -/
def Obligations.RxsUnderLengthHeader : Prop :=
  ∀ (s : State) (e total dst src ctl : Byte) (rest : List Turn), s.seq = .running (.rxs .l4) → s.errSlot = none →
    total.toNat < 3 → s.env = .board (.ok [e, total, dst, src, ctl]) :: rest →
    ∃ t : State, step s = .next t ∧
      t = { s with
        seq := .idle, env := rest, busRx := some [e, total, dst, src, ctl], arbEnabled := false, evtPending := false
        hTotal := t.hTotal, hDst := t.hDst, hSrc := t.hSrc, hCtl := t.hCtl
        trace := s.trace ++ [.transfer (frameRN s.params.regMap s.params.regMap.aFifo 4) (some [e, total, dst, src, ctl]),
          .response [0x05, total]] }

/-- R228: a failing transaction of the arm that is no poke, or of the drain, ends the pipeline in that step: the slot's first
writer is the response, given once, the slot is emptied, the arbiter stops, the latch clears, no packet leaves. -/
def Obligations.RxsErrorEndsOnce : Prop :=
  ∀ (s : State) (l : RxsLine) (tx : List Byte) (rest : List Turn), s.seq = .running (.rxs l) →
    Pos.isPoke (.rxs l) = false → s.outstanding = some tx → s.env = .board .err :: rest →
    step s = .next { s with
      seq := .idle, env := rest, busRx := none, arbEnabled := false, evtPending := false, errSlot := none
      trace := s.trace ++ [.transfer tx none, .response ((s.errSlot.getD (.busError (tx.headD 0))).response)] }

/-- R210: whatever the Board, the lines and the host do, `RXS` never answers `Ok`: neither up to the first turn of another agent
after its acceptance, nor in a step or a run of lines from any of its lines, those of the drain and emit among them. That block
reset makes no response is the model's choice (log 20). -/
def Obligations.RxsNeverOk : Prop :=
  ∀ (s t : State),
    ((s.seq = .idle ∧ exec .rxs s = .next t) ∨ ((∃ l, s.seq = .running (.rxs l)) ∧ s.goesOnTo t)) →
    ∃ es : List Event, t.trace = s.trace ++ es ∧ ∀ bytes, .response (0x00 :: bytes) ∉ es

/-- R227, R229: at `L7` the packet is offered, whatever it holds (the absence of a filter is the spec's own, D31); of the
sequencer's turns only the host's acceptance moves it, and then the packet leaves once. That other turns pass is the model's
choice (log 17), that `pkt_out` is assigned with the acceptance its reading (log 19). -/
def Obligations.OfferWaitsForHost : Prop :=
  ∀ (s : State) (t : Turn) (rest : List Turn), s.seq = .running (.rxs .l7) → s.env = t :: rest →
    t.isSequencer = true → s.offered = some ⟨s.hSrc, s.hDst, s.rssi, s.rxBuf⟩ ∧
      step s = .next (if t = .accept then
        { s with env := rest, seq := .running (.rxs .a1), pktOut := ⟨s.hSrc, s.hDst, s.rssi, s.rxBuf⟩
                 trace := s.trace ++ [.packet ⟨s.hSrc, s.hDst, s.rssi, s.rxBuf⟩] }
      else { s with env := rest })

/-- R223: `L3` follows `W2` and comes before `L4`; it reads the RSSI register and converts by truncation toward zero; the range
-127 to 0 and the rule's six examples. -/
def Obligations.RssiReadAndTruncated : Prop :=
  (∀ r : Byte, rssiOf r = -((r.toNat / 2 : Nat) : Int) ∧ -127 ≤ rssiOf r ∧ rssiOf r ≤ 0) ∧
  (rssiOf 40 = -20 ∧ rssiOf 41 = -20 ∧ rssiOf 0 = 0 ∧ rssiOf 1 = 0 ∧ rssiOf 2 = -1 ∧ rssiOf 255 = -127) ∧
  ∀ (s : State) (x : Byte × Byte) (rest : List Turn),
    (s.seq = .running (.rxs .w2) → s.evtPending = true → s.env = .tick :: answer x :: rest →
      ∃ t : State, stepsTo 2 s t ∧ t.seq = .running (.rxs .l4) ∧ t.rssiRaw = x.2 ∧ t.rssi = rssiOf x.2) ∧
    (s.seq = .running (.rxs .l3) → s.env = answer x :: rest →
      step s = .next { s with
        seq := .running (.rxs .l4), env := rest, busRx := some [x.1, x.2], rssiRaw := x.2, rssi := rssiOf x.2
        trace := s.trace ++ [readOf s.params.regMap s.params.regMap.aRssi x] })

/-! ### The arbiter (45_receive.md, 60_exceptions.md) -/

/-- R230: an edge sets the latch while the arbiter runs and does nothing otherwise; no transaction, no error, whatever the
sequencer is doing. -/
def Obligations.ArbiterRule : Prop :=
  ∀ (s : State) (rest : List Turn), s.env = .irq :: rest →
    step s = .next { s with env := rest, evtPending := s.arbEnabled || s.evtPending }

/-- R260 "Clear: the step `W2` (and `A0`, and the end of `RXS`)": no other line of any operation clears the latch. -/
def Obligations.LatchClearedOnlyThere : Prop :=
  ∀ (s : State) (t : Turn), s.evtPending = true → (takeLine t s).evtPending = false →
    (s.seq = .running (.rxs .w2) ∧ (takeLine t s).seq = .running (.rxs .l3)) ∨
    s.seq = .running (.rxs .a0) ∨
    ((∃ l, s.seq = .running (.rxs l)) ∧ (takeLine t s).seq = .idle)

/-! ### Commands, refusals, abort (30_encoding.md, 60_exceptions.md) -/

/-- Decoding the encoding of a well-formed operation gives it back, in each of the three formats (R80 to R92). -/
def Obligations.DecodeEncode : Prop :=
  ∀ (p : Params) (i : Instr), i.wf p = true → decode p i.format (encode p i) = .instr i

/-- Each decoder accepts nothing but the encodings of well-formed operations of its own format (R80 to R92). -/
def Obligations.DecodeAcceptsOnlyEncodings : Prop :=
  ∀ (p : Params) (f : Format) (bytes : List Byte) (i : Instr), decode p f bytes = .instr i →
    i.wf p = true ∧ i.format = f ∧ encode p i = bytes

/-- Words written out from R82 to R89 under the default binding (G1). -/
def Obligations.SampleWords : Prop :=
  decodeCmd 0x03 [0x01, 0x1C, 0x10] = .instr (.ed 0x01 0x1C 0x10) ∧
  decodeCmd 0x10 [0x0D] = .instr (.pwr 0x0D) ∧
  decodeCmd 0x22 [0x02, 0x30, 0x2D, 0x38, 0x42] = .instr (.setup [(0x30, 0x2D), (0x38, 0x42)]) ∧
  decodeCmd 0x30 [0x02] = .instr (.mode .transmit) ∧
  decodeCmd 0x31 [0x01] = .instr (.waitf .packetSent) ∧
  decodeCmd 0x40 [0x02, 0x02, 0x61, 0x62] = .instr (.send 0x02 [0x61, 0x62]) ∧
  decodeCmd 0x50 [] = .instr .rxs ∧
  decodeBus Config.rmDefault [0x2F, 0x00] = .instr (.busR1 0x2F) ∧
  decodeBus Config.rmDefault [0xAF, 0x55] = .instr (.busW1 0x2F 0x55) ∧
  decodeFifo [0x05, 0x02, 0x01, 0x00, 0x61, 0x62] = .instr (.fifoFrame 0x05 0x02 0x01 0x00 [0x61, 0x62])

/-- R92: an opcode outside R89's table, `MODE` with m > 2, `WAITF` with f > 1, or a byte count that does not match R89 is refused
with `IllegalCommand`; no state changes and no transaction is made. -/
def Obligations.IllegalCommandRefused : Prop :=
  ∀ (s : State) (op : Byte) (operands : List Byte) (rest : List Turn), s.seq = .idle →
    s.env = .cmd op operands :: rest →
    (op ∉ ([0x01, 0x02, 0x03, 0x04, 0x05, 0x10, 0x20, 0x21, 0x22, 0x30, 0x31, 0x40, 0x50] : List Byte) ∨
     (op = 0x30 ∧ ∃ m, operands = [m] ∧ 2 < m.toNat) ∨
     (op = 0x31 ∧ ∃ f, operands = [f] ∧ 1 < f.toNat) ∨
     (∃ o, Opcode.ofByte op = some o ∧ operands.length ≠ o.operandCount operands)) →
    step s = .next { s with env := rest, trace := s.trace ++ [.response [0x09, op]] }

/-- R258: the five tests in order, each refusal a response and nothing else, and acceptance at the operation's first labelled
line with its operands latched (R63); the order is the spec's own, D41. That no register but those operands changes before the
first line completes is R13 as the model reads it (log 6). -/
def Obligations.CommandExaminedInOrder : Prop :=
  ∀ (s : State) (op : Byte) (operands : List Byte) (rest : List Turn), s.env = .cmd op operands :: rest →
    ((∃ p, s.seq = .running p) →
      step s = .next { s with env := rest, trace := s.trace ++ [.response [0x08, 0x00]] }) ∧
    (s.seq = .idle →
      (∀ r, decodeCmd op operands = .reject r →
        step s = .next { s with env := rest, trace := s.trace ++ [.response [0x09, op]] }) ∧
      (∀ i, decodeCmd op operands = .instr i →
        (s.setupDone = false → (i = .rxs ∨ ∃ dst payload, i = .send dst payload) →
          step s = .next { s with env := rest, trace := s.trace ++ [.response [0x07, 0x00]] }) ∧
        (s.setupDone = true → (∃ dst payload, i = .send dst payload ∧ 252 < payload.length) →
          step s = .next { s with env := rest, trace := s.trace ++ [.response [0x04, 0x00]] }) ∧
        ((i = .rxs ∨ (∃ dst payload, i = .send dst payload) → s.setupDone = true) →
          (∀ dst payload, i = .send dst payload → payload.length ≤ 252) →
          ∃ p, firstLine s.params i = some p ∧
            step s = .next { s.latched i with env := rest, seq := .running p })))

/-- A step whose next turn is a command at `Idle` is `exec` of the decoded operation, given no turn yet: its acceptance. A step
whose next turn is the sequencer's completes the one line at the position (R13). And `exec` with turns to follow is a run of
these steps: the acceptance and then one step for each line (R45). -/
def Obligations.StepRunsDecoded : Prop :=
  ∀ (s : State) (rest : List Turn),
    (∀ op operands i, s.seq = .idle → s.env = .cmd op operands :: rest → decodeCmd op operands = .instr i →
      step s = keepTurns rest (exec i { s with env := [] }) ∧
      ∀ t, exec i { s with env := rest } = .next t → ∃ n, n ≤ rest.length ∧ stepsTo (n + 1) s t) ∧
    (∀ p turn, s.seq = .running p → s.env = turn :: rest → turn.isSequencer = true →
      step s = .next ((lineAt s p).complete turn { s with env := rest }))

/-- R90: a command issued at `Idle` is answered exactly once, when the sequencer is back at `Idle`, and not before; the same
of every step and run of lines on the sequencer's turns that takes an operation up at any of its lines. -/
def Obligations.OneResponse : Prop :=
  ∀ (s t : State),
    ((∃ i : Instr, i.format = .cmd ∧ s.seq = .idle ∧ exec i s = .next t) ∨
      ((∃ p, s.seq = .running p) ∧ (∃ turn rest, s.env = turn :: rest ∧ turn.isSequencer = true) ∧ s.goesOnTo t)) →
    ∃ es : List Event, (∀ bytes, .response bytes ∉ es) ∧
      ((t.seq = .idle ∧ ∃ bytes, t.trace = s.trace ++ es ++ [.response bytes]) ∨
       ((∃ p, t.seq = .running p) ∧ t.trace = s.trace ++ es))

/-- R120: at any position, a failed transaction that is no poke, or any under `strict`, ends the operation at that step with
`BusError` of the frame's address byte; `setup_done` survives, and away from the pokes so do `tx_power` and
`mode_shadow`. -/
def Obligations.BusErrorEndsOperation : Prop :=
  ∀ (s : State) (p : Pos) (tx : List Byte) (rest : List Turn), s.Inv → s.seq = .running p → s.outstanding = some tx →
    (s.params.pokePolicy = .strict ∨ p.isPoke = false) → s.env = .board .err :: rest →
    ∃ t : State, step s = .next t ∧ t.seq = .idle ∧ t.env = rest ∧ t.busRx = none ∧
      t.trace = s.trace ++ [.transfer tx none, .response [0x01, tx.headD 0]] ∧
      t.setupDone = s.setupDone ∧ t.errSlot = none ∧
      (p.isPoke = false → t.txPower = s.txPower ∧ t.modeShadow = s.modeShadow)

/-- R122 under `best_effort` (the list of pokes and the discarding of a failed read are the spec's own, D9): a failing poke is
never reported; the sequencer goes to the line after `try X`, of an edit with no write after a failed read, or, where the poke
was the last line of its operation, ends it with `Ok`. -/
def Obligations.BestEffortDiscards : Prop :=
  ∀ (s : State) (p : Pos) (tx : List Byte) (rest : List Turn), s.seq = .running p → s.outstanding = some tx →
    s.params.pokePolicy = .bestEffort → p.isPoke = true → s.env = .board .err :: rest →
    ∃ t : State, step s = .next t ∧ t.env = rest ∧
      match p.afterPoke with
      | some q => t.seq = .running q ∧ t.trace = s.trace ++ [.transfer tx none]
      | none => t.seq = .idle ∧ t.trace = s.trace ++ [.transfer tx none, .response [0x00, 0x00]]

/-! ### Block reset and whole-machine statements (10_state.md, 70_reset_and_hazards.md) -/

/-- The registers right after block reset (the values are the spec's own, D28). -/
def Obligations.ResetState : Prop :=
  State.reset.seq = .idle ∧ State.reset.setupDone = false ∧ State.reset.txPower = none ∧ State.reset.modeShadow = none ∧
  State.reset.evtPending = false ∧ State.reset.arbEnabled = false ∧ State.reset.errSlot = none

/-- Block reset at any position: those values and the parameters kept, no Board transaction made (the spec's own, D28, D42). No
response is made for a command it cuts off (the model's choice, log 20); the record gains the note of the one transaction left
unanswered, and nothing where there is none (log 12). -/
def Obligations.BlockResetStops : Prop :=
  ∀ (s : State) (rest : List Turn), s.env = .blockReset :: rest →
    ∃ t : State, step s = .next t ∧ t.seq = .idle ∧ t.setupDone = false ∧ t.txPower = none ∧ t.modeShadow = none ∧
      t.evtPending = false ∧ t.arbEnabled = false ∧ t.errSlot = none ∧ t.params = s.params ∧ t.env = rest ∧
      t.trace = s.trace ++ s.outstanding.toList.map .transferForgotten ++ s.settingReset.toList.map .setResetForgotten

/-- R42: no step writes a parameter, `NODE_ADDR`, `FILL` and the two powers among them. -/
def Obligations.ParametersNeverWritten : Prop :=
  ∀ (s t : State), step s = .next t → t.params = s.params

/-- The invariant of `State.Inv` holds at reset. -/
def Obligations.InvAtReset : Prop := State.reset.Inv

/-- The invariant of `State.Inv` is kept by every step, whatever the turn: the power range (R22), a power after set-up
(R193), the empty slot between steps (R228), the latch and the arbiter only while `RXS` runs (R27, R230), and the registers
each position relies on (a loop's counter from its first line on, and counted, as log 6 reads R13). -/
def Obligations.InvKept : Prop :=
  ∀ (s t : State), s.Inv → step s = .next t → t.Inv

/-- I1 of R43 is kept by every step under the host's duty of R309 and with no other role at the mode register's address: a
believed mode is the mode last written. -/
def Obligations.BelievedModeKept : Prop :=
  ∀ (s t : State), s.Inv → opmodeApart s.params.regMap = true → s.dutyKept → s.believes → step s = .next t → t.believes

/-- R7: every answered transaction on record has an answer as long as the frame; every step keeps it. -/
def Obligations.AnswersAsLongAsFrames : Prop :=
  ∀ (s t : State), (∀ tx rx, Event.transfer tx (some rx) ∈ s.trace → rx.length = tx.length) → step s = .next t →
    ∀ tx rx, Event.transfer tx (some rx) ∈ t.trace → rx.length = tx.length

/-! ### Frames: what an operation leaves alone, whatever the Board, the lines and the host do -/

/-- R121, which the spec marks "derived: from rules R110 to R118": the five primitives write none of the RAC's registers but
`ED`'s `edit_old`; the rows of the table that are bus frames or the FIFO frame write none (the model's reading, log 8, log
9). -/
def Obligations.AccessFrame : Prop :=
  ∀ (i : Instr) (s t : State), exec i s = .next t →
    ((∃ a, i = .rd a) ∨ (∃ a v, i = .wr a v) ∨ (∃ a n, i = .brd a n) ∨ (∃ a bytes, i = .bwr a bytes) →
      t = { s with seq := t.seq, busRx := t.busRx, env := t.env, trace := t.trace }) ∧
    ((∃ a clr set, i = .ed a clr set) →
      t = { s with seq := t.seq, busRx := t.busRx, env := t.env, trace := t.trace, editOld := t.editOld }) ∧
    (i.format ≠ .cmd → t = { s with busRx := t.busRx, env := t.env, trace := t.trace })

/-- R130, R150, R152, R158 "State written": what `PWR`, `RSTP`, `SYNC` and `SETUP` leave alone. -/
def Obligations.PowerAndSyncFrame : Prop :=
  ∀ (s t : State),
    (∀ p : Byte, exec (.pwr p) s = .next t →
      t = { s with seq := t.seq, busRx := t.busRx, env := t.env, trace := t.trace, txPower := t.txPower }) ∧
    (exec .rstp s = .next t →
      t = { s with seq := t.seq, busRx := t.busRx, env := t.env, trace := t.trace
                   setupDone := t.setupDone, modeShadow := t.modeShadow }) ∧
    (∀ sentinel : Byte, exec (.sync sentinel) s = .next t →
      t = { s with seq := t.seq, busRx := t.busRx, env := t.env, trace := t.trace, attempt := t.attempt }) ∧
    (∀ cfg : List (Byte × Byte), exec (.setup cfg) s = .next t →
      t = { s with seq := t.seq, busRx := t.busRx, env := t.env, trace := t.trace
                   setupDone := t.setupDone, modeShadow := t.modeShadow, attempt := t.attempt
                   cfg := t.cfg, cfgI := t.cfgI, txPower := t.txPower })

/-- R170, R175, R190 "State written": what `MODE`, `WAITF` and `SEND` leave alone; `SEND` reads `tx_power` and does not write
it. -/
def Obligations.ModeAndSendFrame : Prop :=
  ∀ (s t : State),
    (∀ m : OpMode, exec (.mode m) s = .next t →
      t = { s with seq := t.seq, busRx := t.busRx, env := t.env, trace := t.trace
                   modeShadow := t.modeShadow, editOld := t.editOld }) ∧
    (∀ f : Flag, exec (.waitf f) s = .next t →
      t = { s with seq := t.seq, busRx := t.busRx, env := t.env, trace := t.trace, polls := t.polls }) ∧
    (∀ (dst : Byte) (payload : List Byte), exec (.send dst payload) s = .next t →
      t = { s with seq := t.seq, busRx := t.busRx, env := t.env, trace := t.trace, txDst := t.txDst, txPayload := t.txPayload
                   modeShadow := t.modeShadow, editOld := t.editOld, polls := t.polls })

/-- R210 "State written": what `RXS` leaves alone, from its acceptance to the first turn of another agent, and in a step or a
run of lines from any of its lines, those of the drain and emit among them, whichever agent's the turn is but block reset. -/
def Obligations.RxsFrame : Prop :=
  ∀ (s t : State),
    (exec .rxs s = .next t ∨
      ((∃ l, s.seq = .running (.rxs l)) ∧ (∀ rest, s.env ≠ .blockReset :: rest) ∧ s.goesOnTo t)) →
    t = { s with seq := t.seq, busRx := t.busRx, env := t.env, trace := t.trace
                 evtPending := t.evtPending, arbEnabled := t.arbEnabled, errSlot := t.errSlot
                 modeShadow := t.modeShadow, editOld := t.editOld, flags := t.flags, rssiRaw := t.rssiRaw, rssi := t.rssi
                 hTotal := t.hTotal, hDst := t.hDst, hSrc := t.hSrc, hCtl := t.hCtl, plen := t.plen, rxBuf := t.rxBuf
                 pktOut := t.pktOut }
end

