-- ==== Sys2Proof/Laws/State.lean ====
section
/-! SUPPORT. What each named update of the state leaves in each field, true by unfolding: no later proof unfolds a record
update. -/

namespace Sys2Proof.Machine

/-! ### `State.emit` -/

@[simp] theorem State.emit_params (s : State) (e : Event) : (s.emit e).params = s.params := rfl
@[simp] theorem State.emit_seq (s : State) (e : Event) : (s.emit e).seq = s.seq := rfl
@[simp] theorem State.emit_setupDone (s : State) (e : Event) : (s.emit e).setupDone = s.setupDone := rfl
@[simp] theorem State.emit_txPower (s : State) (e : Event) : (s.emit e).txPower = s.txPower := rfl
@[simp] theorem State.emit_modeShadow (s : State) (e : Event) : (s.emit e).modeShadow = s.modeShadow := rfl
@[simp] theorem State.emit_evtPending (s : State) (e : Event) : (s.emit e).evtPending = s.evtPending := rfl
@[simp] theorem State.emit_arbEnabled (s : State) (e : Event) : (s.emit e).arbEnabled = s.arbEnabled := rfl
@[simp] theorem State.emit_errSlot (s : State) (e : Event) : (s.emit e).errSlot = s.errSlot := rfl
@[simp] theorem State.emit_attempt (s : State) (e : Event) : (s.emit e).attempt = s.attempt := rfl
@[simp] theorem State.emit_polls (s : State) (e : Event) : (s.emit e).polls = s.polls := rfl
@[simp] theorem State.emit_txDst (s : State) (e : Event) : (s.emit e).txDst = s.txDst := rfl
@[simp] theorem State.emit_txPayload (s : State) (e : Event) : (s.emit e).txPayload = s.txPayload := rfl
@[simp] theorem State.emit_cfg (s : State) (e : Event) : (s.emit e).cfg = s.cfg := rfl
@[simp] theorem State.emit_cfgI (s : State) (e : Event) : (s.emit e).cfgI = s.cfgI := rfl
@[simp] theorem State.emit_flags (s : State) (e : Event) : (s.emit e).flags = s.flags := rfl
@[simp] theorem State.emit_rssiRaw (s : State) (e : Event) : (s.emit e).rssiRaw = s.rssiRaw := rfl
@[simp] theorem State.emit_rssi (s : State) (e : Event) : (s.emit e).rssi = s.rssi := rfl
@[simp] theorem State.emit_hTotal (s : State) (e : Event) : (s.emit e).hTotal = s.hTotal := rfl
@[simp] theorem State.emit_hDst (s : State) (e : Event) : (s.emit e).hDst = s.hDst := rfl
@[simp] theorem State.emit_hSrc (s : State) (e : Event) : (s.emit e).hSrc = s.hSrc := rfl
@[simp] theorem State.emit_hCtl (s : State) (e : Event) : (s.emit e).hCtl = s.hCtl := rfl
@[simp] theorem State.emit_plen (s : State) (e : Event) : (s.emit e).plen = s.plen := rfl
@[simp] theorem State.emit_rxBuf (s : State) (e : Event) : (s.emit e).rxBuf = s.rxBuf := rfl
@[simp] theorem State.emit_pktOut (s : State) (e : Event) : (s.emit e).pktOut = s.pktOut := rfl
@[simp] theorem State.emit_editOld (s : State) (e : Event) : (s.emit e).editOld = s.editOld := rfl
@[simp] theorem State.emit_busRx (s : State) (e : Event) : (s.emit e).busRx = s.busRx := rfl
@[simp] theorem State.emit_env (s : State) (e : Event) : (s.emit e).env = s.env := rfl
@[simp] theorem State.emit_trace (s : State) (e : Event) : (s.emit e).trace = s.trace ++ [e] := rfl

/-! ### `State.goto` -/

@[simp] theorem State.goto_params (s : State) (p : Pos) : (s.goto p).params = s.params := rfl
@[simp] theorem State.goto_seq (s : State) (p : Pos) : (s.goto p).seq = .running p := rfl
@[simp] theorem State.goto_setupDone (s : State) (p : Pos) : (s.goto p).setupDone = s.setupDone := rfl
@[simp] theorem State.goto_txPower (s : State) (p : Pos) : (s.goto p).txPower = s.txPower := rfl
@[simp] theorem State.goto_modeShadow (s : State) (p : Pos) : (s.goto p).modeShadow = s.modeShadow := rfl
@[simp] theorem State.goto_evtPending (s : State) (p : Pos) : (s.goto p).evtPending = s.evtPending := rfl
@[simp] theorem State.goto_arbEnabled (s : State) (p : Pos) : (s.goto p).arbEnabled = s.arbEnabled := rfl
@[simp] theorem State.goto_errSlot (s : State) (p : Pos) : (s.goto p).errSlot = s.errSlot := rfl
@[simp] theorem State.goto_attempt (s : State) (p : Pos) : (s.goto p).attempt = s.attempt := rfl
@[simp] theorem State.goto_polls (s : State) (p : Pos) : (s.goto p).polls = s.polls := rfl
@[simp] theorem State.goto_txDst (s : State) (p : Pos) : (s.goto p).txDst = s.txDst := rfl
@[simp] theorem State.goto_txPayload (s : State) (p : Pos) : (s.goto p).txPayload = s.txPayload := rfl
@[simp] theorem State.goto_cfg (s : State) (p : Pos) : (s.goto p).cfg = s.cfg := rfl
@[simp] theorem State.goto_cfgI (s : State) (p : Pos) : (s.goto p).cfgI = s.cfgI := rfl
@[simp] theorem State.goto_flags (s : State) (p : Pos) : (s.goto p).flags = s.flags := rfl
@[simp] theorem State.goto_rssiRaw (s : State) (p : Pos) : (s.goto p).rssiRaw = s.rssiRaw := rfl
@[simp] theorem State.goto_rssi (s : State) (p : Pos) : (s.goto p).rssi = s.rssi := rfl
@[simp] theorem State.goto_hTotal (s : State) (p : Pos) : (s.goto p).hTotal = s.hTotal := rfl
@[simp] theorem State.goto_hDst (s : State) (p : Pos) : (s.goto p).hDst = s.hDst := rfl
@[simp] theorem State.goto_hSrc (s : State) (p : Pos) : (s.goto p).hSrc = s.hSrc := rfl
@[simp] theorem State.goto_hCtl (s : State) (p : Pos) : (s.goto p).hCtl = s.hCtl := rfl
@[simp] theorem State.goto_plen (s : State) (p : Pos) : (s.goto p).plen = s.plen := rfl
@[simp] theorem State.goto_rxBuf (s : State) (p : Pos) : (s.goto p).rxBuf = s.rxBuf := rfl
@[simp] theorem State.goto_pktOut (s : State) (p : Pos) : (s.goto p).pktOut = s.pktOut := rfl
@[simp] theorem State.goto_editOld (s : State) (p : Pos) : (s.goto p).editOld = s.editOld := rfl
@[simp] theorem State.goto_busRx (s : State) (p : Pos) : (s.goto p).busRx = s.busRx := rfl
@[simp] theorem State.goto_env (s : State) (p : Pos) : (s.goto p).env = s.env := rfl
@[simp] theorem State.goto_trace (s : State) (p : Pos) : (s.goto p).trace = s.trace := rfl

/-! ### `State.finish` -/

@[simp] theorem State.finish_params (s : State) (v : List Byte) : (s.finish v).params = s.params := rfl
@[simp] theorem State.finish_seq (s : State) (v : List Byte) : (s.finish v).seq = .idle := rfl
@[simp] theorem State.finish_setupDone (s : State) (v : List Byte) : (s.finish v).setupDone = s.setupDone := rfl
@[simp] theorem State.finish_txPower (s : State) (v : List Byte) : (s.finish v).txPower = s.txPower := rfl
@[simp] theorem State.finish_modeShadow (s : State) (v : List Byte) : (s.finish v).modeShadow = s.modeShadow := rfl
@[simp] theorem State.finish_evtPending (s : State) (v : List Byte) : (s.finish v).evtPending = s.evtPending := rfl
@[simp] theorem State.finish_arbEnabled (s : State) (v : List Byte) : (s.finish v).arbEnabled = s.arbEnabled := rfl
@[simp] theorem State.finish_errSlot (s : State) (v : List Byte) : (s.finish v).errSlot = s.errSlot := rfl
@[simp] theorem State.finish_attempt (s : State) (v : List Byte) : (s.finish v).attempt = s.attempt := rfl
@[simp] theorem State.finish_polls (s : State) (v : List Byte) : (s.finish v).polls = s.polls := rfl
@[simp] theorem State.finish_txDst (s : State) (v : List Byte) : (s.finish v).txDst = s.txDst := rfl
@[simp] theorem State.finish_txPayload (s : State) (v : List Byte) : (s.finish v).txPayload = s.txPayload := rfl
@[simp] theorem State.finish_cfg (s : State) (v : List Byte) : (s.finish v).cfg = s.cfg := rfl
@[simp] theorem State.finish_cfgI (s : State) (v : List Byte) : (s.finish v).cfgI = s.cfgI := rfl
@[simp] theorem State.finish_flags (s : State) (v : List Byte) : (s.finish v).flags = s.flags := rfl
@[simp] theorem State.finish_rssiRaw (s : State) (v : List Byte) : (s.finish v).rssiRaw = s.rssiRaw := rfl
@[simp] theorem State.finish_rssi (s : State) (v : List Byte) : (s.finish v).rssi = s.rssi := rfl
@[simp] theorem State.finish_hTotal (s : State) (v : List Byte) : (s.finish v).hTotal = s.hTotal := rfl
@[simp] theorem State.finish_hDst (s : State) (v : List Byte) : (s.finish v).hDst = s.hDst := rfl
@[simp] theorem State.finish_hSrc (s : State) (v : List Byte) : (s.finish v).hSrc = s.hSrc := rfl
@[simp] theorem State.finish_hCtl (s : State) (v : List Byte) : (s.finish v).hCtl = s.hCtl := rfl
@[simp] theorem State.finish_plen (s : State) (v : List Byte) : (s.finish v).plen = s.plen := rfl
@[simp] theorem State.finish_rxBuf (s : State) (v : List Byte) : (s.finish v).rxBuf = s.rxBuf := rfl
@[simp] theorem State.finish_pktOut (s : State) (v : List Byte) : (s.finish v).pktOut = s.pktOut := rfl
@[simp] theorem State.finish_editOld (s : State) (v : List Byte) : (s.finish v).editOld = s.editOld := rfl
@[simp] theorem State.finish_busRx (s : State) (v : List Byte) : (s.finish v).busRx = s.busRx := rfl
@[simp] theorem State.finish_env (s : State) (v : List Byte) : (s.finish v).env = s.env := rfl
@[simp] theorem State.finish_trace (s : State) (v : List Byte) : (s.finish v).trace = s.trace ++ [.response (okResponse v)] := rfl

/-! ### `State.raise` -/

@[simp] theorem State.raise_params (e : Err) (s : State) : (s.raise e).params = s.params := rfl
@[simp] theorem State.raise_seq (e : Err) (s : State) : (s.raise e).seq = .idle := rfl
@[simp] theorem State.raise_setupDone (e : Err) (s : State) : (s.raise e).setupDone = s.setupDone := rfl
@[simp] theorem State.raise_txPower (e : Err) (s : State) : (s.raise e).txPower = s.txPower := rfl
@[simp] theorem State.raise_modeShadow (e : Err) (s : State) : (s.raise e).modeShadow = s.modeShadow := rfl
@[simp] theorem State.raise_evtPending (e : Err) (s : State) : (s.raise e).evtPending = s.evtPending := rfl
@[simp] theorem State.raise_arbEnabled (e : Err) (s : State) : (s.raise e).arbEnabled = s.arbEnabled := rfl
@[simp] theorem State.raise_errSlot (e : Err) (s : State) : (s.raise e).errSlot = s.errSlot := rfl
@[simp] theorem State.raise_attempt (e : Err) (s : State) : (s.raise e).attempt = s.attempt := rfl
@[simp] theorem State.raise_polls (e : Err) (s : State) : (s.raise e).polls = s.polls := rfl
@[simp] theorem State.raise_txDst (e : Err) (s : State) : (s.raise e).txDst = s.txDst := rfl
@[simp] theorem State.raise_txPayload (e : Err) (s : State) : (s.raise e).txPayload = s.txPayload := rfl
@[simp] theorem State.raise_cfg (e : Err) (s : State) : (s.raise e).cfg = s.cfg := rfl
@[simp] theorem State.raise_cfgI (e : Err) (s : State) : (s.raise e).cfgI = s.cfgI := rfl
@[simp] theorem State.raise_flags (e : Err) (s : State) : (s.raise e).flags = s.flags := rfl
@[simp] theorem State.raise_rssiRaw (e : Err) (s : State) : (s.raise e).rssiRaw = s.rssiRaw := rfl
@[simp] theorem State.raise_rssi (e : Err) (s : State) : (s.raise e).rssi = s.rssi := rfl
@[simp] theorem State.raise_hTotal (e : Err) (s : State) : (s.raise e).hTotal = s.hTotal := rfl
@[simp] theorem State.raise_hDst (e : Err) (s : State) : (s.raise e).hDst = s.hDst := rfl
@[simp] theorem State.raise_hSrc (e : Err) (s : State) : (s.raise e).hSrc = s.hSrc := rfl
@[simp] theorem State.raise_hCtl (e : Err) (s : State) : (s.raise e).hCtl = s.hCtl := rfl
@[simp] theorem State.raise_plen (e : Err) (s : State) : (s.raise e).plen = s.plen := rfl
@[simp] theorem State.raise_rxBuf (e : Err) (s : State) : (s.raise e).rxBuf = s.rxBuf := rfl
@[simp] theorem State.raise_pktOut (e : Err) (s : State) : (s.raise e).pktOut = s.pktOut := rfl
@[simp] theorem State.raise_editOld (e : Err) (s : State) : (s.raise e).editOld = s.editOld := rfl
@[simp] theorem State.raise_busRx (e : Err) (s : State) : (s.raise e).busRx = s.busRx := rfl
@[simp] theorem State.raise_env (e : Err) (s : State) : (s.raise e).env = s.env := rfl
@[simp] theorem State.raise_trace (e : Err) (s : State) : (s.raise e).trace = s.trace ++ [.response e.response] := rfl

/-! ### `State.raiseSetup` -/

@[simp] theorem State.raiseSetup_params (e : Err) (s : State) : (s.raiseSetup e).params = s.params := rfl
@[simp] theorem State.raiseSetup_seq (e : Err) (s : State) : (s.raiseSetup e).seq = .idle := rfl
@[simp] theorem State.raiseSetup_setupDone (e : Err) (s : State) : (s.raiseSetup e).setupDone = s.setupDone := rfl
@[simp] theorem State.raiseSetup_txPower (e : Err) (s : State) : (s.raiseSetup e).txPower = s.txPower := rfl
@[simp] theorem State.raiseSetup_modeShadow (e : Err) (s : State) : (s.raiseSetup e).modeShadow = s.modeShadow := rfl
@[simp] theorem State.raiseSetup_evtPending (e : Err) (s : State) : (s.raiseSetup e).evtPending = s.evtPending := rfl
@[simp] theorem State.raiseSetup_arbEnabled (e : Err) (s : State) : (s.raiseSetup e).arbEnabled = s.arbEnabled := rfl
@[simp] theorem State.raiseSetup_errSlot (e : Err) (s : State) : (s.raiseSetup e).errSlot = s.errSlot := rfl
@[simp] theorem State.raiseSetup_attempt (e : Err) (s : State) : (s.raiseSetup e).attempt = s.attempt := rfl
@[simp] theorem State.raiseSetup_polls (e : Err) (s : State) : (s.raiseSetup e).polls = s.polls := rfl
@[simp] theorem State.raiseSetup_txDst (e : Err) (s : State) : (s.raiseSetup e).txDst = s.txDst := rfl
@[simp] theorem State.raiseSetup_txPayload (e : Err) (s : State) : (s.raiseSetup e).txPayload = s.txPayload := rfl
@[simp] theorem State.raiseSetup_cfg (e : Err) (s : State) : (s.raiseSetup e).cfg = [] := rfl
@[simp] theorem State.raiseSetup_cfgI (e : Err) (s : State) : (s.raiseSetup e).cfgI = 0 := rfl
@[simp] theorem State.raiseSetup_flags (e : Err) (s : State) : (s.raiseSetup e).flags = s.flags := rfl
@[simp] theorem State.raiseSetup_rssiRaw (e : Err) (s : State) : (s.raiseSetup e).rssiRaw = s.rssiRaw := rfl
@[simp] theorem State.raiseSetup_rssi (e : Err) (s : State) : (s.raiseSetup e).rssi = s.rssi := rfl
@[simp] theorem State.raiseSetup_hTotal (e : Err) (s : State) : (s.raiseSetup e).hTotal = s.hTotal := rfl
@[simp] theorem State.raiseSetup_hDst (e : Err) (s : State) : (s.raiseSetup e).hDst = s.hDst := rfl
@[simp] theorem State.raiseSetup_hSrc (e : Err) (s : State) : (s.raiseSetup e).hSrc = s.hSrc := rfl
@[simp] theorem State.raiseSetup_hCtl (e : Err) (s : State) : (s.raiseSetup e).hCtl = s.hCtl := rfl
@[simp] theorem State.raiseSetup_plen (e : Err) (s : State) : (s.raiseSetup e).plen = s.plen := rfl
@[simp] theorem State.raiseSetup_rxBuf (e : Err) (s : State) : (s.raiseSetup e).rxBuf = s.rxBuf := rfl
@[simp] theorem State.raiseSetup_pktOut (e : Err) (s : State) : (s.raiseSetup e).pktOut = s.pktOut := rfl
@[simp] theorem State.raiseSetup_editOld (e : Err) (s : State) : (s.raiseSetup e).editOld = s.editOld := rfl
@[simp] theorem State.raiseSetup_busRx (e : Err) (s : State) : (s.raiseSetup e).busRx = s.busRx := rfl
@[simp] theorem State.raiseSetup_env (e : Err) (s : State) : (s.raiseSetup e).env = s.env := rfl
@[simp] theorem State.raiseSetup_trace (e : Err) (s : State) : (s.raiseSetup e).trace = s.trace ++ [.response e.response] := rfl

/-! ### `State.raiseRxs` -/

@[simp] theorem State.raiseRxs_params (e : Err) (s : State) : (s.raiseRxs e).params = s.params := rfl
@[simp] theorem State.raiseRxs_seq (e : Err) (s : State) : (s.raiseRxs e).seq = .idle := rfl
@[simp] theorem State.raiseRxs_setupDone (e : Err) (s : State) : (s.raiseRxs e).setupDone = s.setupDone := rfl
@[simp] theorem State.raiseRxs_txPower (e : Err) (s : State) : (s.raiseRxs e).txPower = s.txPower := rfl
@[simp] theorem State.raiseRxs_modeShadow (e : Err) (s : State) : (s.raiseRxs e).modeShadow = s.modeShadow := rfl
@[simp] theorem State.raiseRxs_evtPending (e : Err) (s : State) : (s.raiseRxs e).evtPending = false := rfl
@[simp] theorem State.raiseRxs_arbEnabled (e : Err) (s : State) : (s.raiseRxs e).arbEnabled = false := rfl
@[simp] theorem State.raiseRxs_errSlot (e : Err) (s : State) : (s.raiseRxs e).errSlot = none := rfl
@[simp] theorem State.raiseRxs_attempt (e : Err) (s : State) : (s.raiseRxs e).attempt = s.attempt := rfl
@[simp] theorem State.raiseRxs_polls (e : Err) (s : State) : (s.raiseRxs e).polls = s.polls := rfl
@[simp] theorem State.raiseRxs_txDst (e : Err) (s : State) : (s.raiseRxs e).txDst = s.txDst := rfl
@[simp] theorem State.raiseRxs_txPayload (e : Err) (s : State) : (s.raiseRxs e).txPayload = s.txPayload := rfl
@[simp] theorem State.raiseRxs_cfg (e : Err) (s : State) : (s.raiseRxs e).cfg = s.cfg := rfl
@[simp] theorem State.raiseRxs_cfgI (e : Err) (s : State) : (s.raiseRxs e).cfgI = s.cfgI := rfl
@[simp] theorem State.raiseRxs_flags (e : Err) (s : State) : (s.raiseRxs e).flags = s.flags := rfl
@[simp] theorem State.raiseRxs_rssiRaw (e : Err) (s : State) : (s.raiseRxs e).rssiRaw = s.rssiRaw := rfl
@[simp] theorem State.raiseRxs_rssi (e : Err) (s : State) : (s.raiseRxs e).rssi = s.rssi := rfl
@[simp] theorem State.raiseRxs_hTotal (e : Err) (s : State) : (s.raiseRxs e).hTotal = s.hTotal := rfl
@[simp] theorem State.raiseRxs_hDst (e : Err) (s : State) : (s.raiseRxs e).hDst = s.hDst := rfl
@[simp] theorem State.raiseRxs_hSrc (e : Err) (s : State) : (s.raiseRxs e).hSrc = s.hSrc := rfl
@[simp] theorem State.raiseRxs_hCtl (e : Err) (s : State) : (s.raiseRxs e).hCtl = s.hCtl := rfl
@[simp] theorem State.raiseRxs_plen (e : Err) (s : State) : (s.raiseRxs e).plen = s.plen := rfl
@[simp] theorem State.raiseRxs_rxBuf (e : Err) (s : State) : (s.raiseRxs e).rxBuf = s.rxBuf := rfl
@[simp] theorem State.raiseRxs_pktOut (e : Err) (s : State) : (s.raiseRxs e).pktOut = s.pktOut := rfl
@[simp] theorem State.raiseRxs_editOld (e : Err) (s : State) : (s.raiseRxs e).editOld = s.editOld := rfl
@[simp] theorem State.raiseRxs_busRx (e : Err) (s : State) : (s.raiseRxs e).busRx = s.busRx := rfl
@[simp] theorem State.raiseRxs_env (e : Err) (s : State) : (s.raiseRxs e).env = s.env := rfl
@[simp] theorem State.raiseRxs_trace (e : Err) (s : State) : (s.raiseRxs e).trace = s.trace ++ [.response (s.errSlot.getD e).response] := rfl

/-! ### `State.refuse` -/

@[simp] theorem State.refuse_params (e : Err) (s : State) : (s.refuse e).params = s.params := rfl
@[simp] theorem State.refuse_seq (e : Err) (s : State) : (s.refuse e).seq = s.seq := rfl
@[simp] theorem State.refuse_setupDone (e : Err) (s : State) : (s.refuse e).setupDone = s.setupDone := rfl
@[simp] theorem State.refuse_txPower (e : Err) (s : State) : (s.refuse e).txPower = s.txPower := rfl
@[simp] theorem State.refuse_modeShadow (e : Err) (s : State) : (s.refuse e).modeShadow = s.modeShadow := rfl
@[simp] theorem State.refuse_evtPending (e : Err) (s : State) : (s.refuse e).evtPending = s.evtPending := rfl
@[simp] theorem State.refuse_arbEnabled (e : Err) (s : State) : (s.refuse e).arbEnabled = s.arbEnabled := rfl
@[simp] theorem State.refuse_errSlot (e : Err) (s : State) : (s.refuse e).errSlot = s.errSlot := rfl
@[simp] theorem State.refuse_attempt (e : Err) (s : State) : (s.refuse e).attempt = s.attempt := rfl
@[simp] theorem State.refuse_polls (e : Err) (s : State) : (s.refuse e).polls = s.polls := rfl
@[simp] theorem State.refuse_txDst (e : Err) (s : State) : (s.refuse e).txDst = s.txDst := rfl
@[simp] theorem State.refuse_txPayload (e : Err) (s : State) : (s.refuse e).txPayload = s.txPayload := rfl
@[simp] theorem State.refuse_cfg (e : Err) (s : State) : (s.refuse e).cfg = s.cfg := rfl
@[simp] theorem State.refuse_cfgI (e : Err) (s : State) : (s.refuse e).cfgI = s.cfgI := rfl
@[simp] theorem State.refuse_flags (e : Err) (s : State) : (s.refuse e).flags = s.flags := rfl
@[simp] theorem State.refuse_rssiRaw (e : Err) (s : State) : (s.refuse e).rssiRaw = s.rssiRaw := rfl
@[simp] theorem State.refuse_rssi (e : Err) (s : State) : (s.refuse e).rssi = s.rssi := rfl
@[simp] theorem State.refuse_hTotal (e : Err) (s : State) : (s.refuse e).hTotal = s.hTotal := rfl
@[simp] theorem State.refuse_hDst (e : Err) (s : State) : (s.refuse e).hDst = s.hDst := rfl
@[simp] theorem State.refuse_hSrc (e : Err) (s : State) : (s.refuse e).hSrc = s.hSrc := rfl
@[simp] theorem State.refuse_hCtl (e : Err) (s : State) : (s.refuse e).hCtl = s.hCtl := rfl
@[simp] theorem State.refuse_plen (e : Err) (s : State) : (s.refuse e).plen = s.plen := rfl
@[simp] theorem State.refuse_rxBuf (e : Err) (s : State) : (s.refuse e).rxBuf = s.rxBuf := rfl
@[simp] theorem State.refuse_pktOut (e : Err) (s : State) : (s.refuse e).pktOut = s.pktOut := rfl
@[simp] theorem State.refuse_editOld (e : Err) (s : State) : (s.refuse e).editOld = s.editOld := rfl
@[simp] theorem State.refuse_busRx (e : Err) (s : State) : (s.refuse e).busRx = s.busRx := rfl
@[simp] theorem State.refuse_env (e : Err) (s : State) : (s.refuse e).env = s.env := rfl
@[simp] theorem State.refuse_trace (e : Err) (s : State) : (s.refuse e).trace = s.trace ++ [.response e.response] := rfl

/-! ### `State.transact` -/

@[simp] theorem State.transact_params (tx : List Byte) (ans : Answer) (s : State) : (s.transact tx ans).params = s.params := rfl
@[simp] theorem State.transact_seq (tx : List Byte) (ans : Answer) (s : State) : (s.transact tx ans).seq = s.seq := rfl
@[simp] theorem State.transact_setupDone (tx : List Byte) (ans : Answer) (s : State) : (s.transact tx ans).setupDone = s.setupDone := rfl
@[simp] theorem State.transact_txPower (tx : List Byte) (ans : Answer) (s : State) : (s.transact tx ans).txPower = s.txPower := rfl
@[simp] theorem State.transact_modeShadow (tx : List Byte) (ans : Answer) (s : State) : (s.transact tx ans).modeShadow = s.modeShadow := rfl
@[simp] theorem State.transact_evtPending (tx : List Byte) (ans : Answer) (s : State) : (s.transact tx ans).evtPending = s.evtPending := rfl
@[simp] theorem State.transact_arbEnabled (tx : List Byte) (ans : Answer) (s : State) : (s.transact tx ans).arbEnabled = s.arbEnabled := rfl
@[simp] theorem State.transact_errSlot (tx : List Byte) (ans : Answer) (s : State) : (s.transact tx ans).errSlot = s.errSlot := rfl
@[simp] theorem State.transact_attempt (tx : List Byte) (ans : Answer) (s : State) : (s.transact tx ans).attempt = s.attempt := rfl
@[simp] theorem State.transact_polls (tx : List Byte) (ans : Answer) (s : State) : (s.transact tx ans).polls = s.polls := rfl
@[simp] theorem State.transact_txDst (tx : List Byte) (ans : Answer) (s : State) : (s.transact tx ans).txDst = s.txDst := rfl
@[simp] theorem State.transact_txPayload (tx : List Byte) (ans : Answer) (s : State) : (s.transact tx ans).txPayload = s.txPayload := rfl
@[simp] theorem State.transact_cfg (tx : List Byte) (ans : Answer) (s : State) : (s.transact tx ans).cfg = s.cfg := rfl
@[simp] theorem State.transact_cfgI (tx : List Byte) (ans : Answer) (s : State) : (s.transact tx ans).cfgI = s.cfgI := rfl
@[simp] theorem State.transact_flags (tx : List Byte) (ans : Answer) (s : State) : (s.transact tx ans).flags = s.flags := rfl
@[simp] theorem State.transact_rssiRaw (tx : List Byte) (ans : Answer) (s : State) : (s.transact tx ans).rssiRaw = s.rssiRaw := rfl
@[simp] theorem State.transact_rssi (tx : List Byte) (ans : Answer) (s : State) : (s.transact tx ans).rssi = s.rssi := rfl
@[simp] theorem State.transact_hTotal (tx : List Byte) (ans : Answer) (s : State) : (s.transact tx ans).hTotal = s.hTotal := rfl
@[simp] theorem State.transact_hDst (tx : List Byte) (ans : Answer) (s : State) : (s.transact tx ans).hDst = s.hDst := rfl
@[simp] theorem State.transact_hSrc (tx : List Byte) (ans : Answer) (s : State) : (s.transact tx ans).hSrc = s.hSrc := rfl
@[simp] theorem State.transact_hCtl (tx : List Byte) (ans : Answer) (s : State) : (s.transact tx ans).hCtl = s.hCtl := rfl
@[simp] theorem State.transact_plen (tx : List Byte) (ans : Answer) (s : State) : (s.transact tx ans).plen = s.plen := rfl
@[simp] theorem State.transact_rxBuf (tx : List Byte) (ans : Answer) (s : State) : (s.transact tx ans).rxBuf = s.rxBuf := rfl
@[simp] theorem State.transact_pktOut (tx : List Byte) (ans : Answer) (s : State) : (s.transact tx ans).pktOut = s.pktOut := rfl
@[simp] theorem State.transact_editOld (tx : List Byte) (ans : Answer) (s : State) : (s.transact tx ans).editOld = s.editOld := rfl
@[simp] theorem State.transact_busRx (tx : List Byte) (ans : Answer) (s : State) : (s.transact tx ans).busRx = ans.bytes := rfl
@[simp] theorem State.transact_env (tx : List Byte) (ans : Answer) (s : State) : (s.transact tx ans).env = s.env := rfl
@[simp] theorem State.transact_trace (tx : List Byte) (ans : Answer) (s : State) : (s.transact tx ans).trace = s.trace ++ [.transfer tx ans.bytes] := rfl

/-! ### `State.withEnv` -/

@[simp] theorem State.withEnv_params (s : State) (ts : List Turn) : (s.withEnv ts).params = s.params := rfl
@[simp] theorem State.withEnv_seq (s : State) (ts : List Turn) : (s.withEnv ts).seq = s.seq := rfl
@[simp] theorem State.withEnv_setupDone (s : State) (ts : List Turn) : (s.withEnv ts).setupDone = s.setupDone := rfl
@[simp] theorem State.withEnv_txPower (s : State) (ts : List Turn) : (s.withEnv ts).txPower = s.txPower := rfl
@[simp] theorem State.withEnv_modeShadow (s : State) (ts : List Turn) : (s.withEnv ts).modeShadow = s.modeShadow := rfl
@[simp] theorem State.withEnv_evtPending (s : State) (ts : List Turn) : (s.withEnv ts).evtPending = s.evtPending := rfl
@[simp] theorem State.withEnv_arbEnabled (s : State) (ts : List Turn) : (s.withEnv ts).arbEnabled = s.arbEnabled := rfl
@[simp] theorem State.withEnv_errSlot (s : State) (ts : List Turn) : (s.withEnv ts).errSlot = s.errSlot := rfl
@[simp] theorem State.withEnv_attempt (s : State) (ts : List Turn) : (s.withEnv ts).attempt = s.attempt := rfl
@[simp] theorem State.withEnv_polls (s : State) (ts : List Turn) : (s.withEnv ts).polls = s.polls := rfl
@[simp] theorem State.withEnv_txDst (s : State) (ts : List Turn) : (s.withEnv ts).txDst = s.txDst := rfl
@[simp] theorem State.withEnv_txPayload (s : State) (ts : List Turn) : (s.withEnv ts).txPayload = s.txPayload := rfl
@[simp] theorem State.withEnv_cfg (s : State) (ts : List Turn) : (s.withEnv ts).cfg = s.cfg := rfl
@[simp] theorem State.withEnv_cfgI (s : State) (ts : List Turn) : (s.withEnv ts).cfgI = s.cfgI := rfl
@[simp] theorem State.withEnv_flags (s : State) (ts : List Turn) : (s.withEnv ts).flags = s.flags := rfl
@[simp] theorem State.withEnv_rssiRaw (s : State) (ts : List Turn) : (s.withEnv ts).rssiRaw = s.rssiRaw := rfl
@[simp] theorem State.withEnv_rssi (s : State) (ts : List Turn) : (s.withEnv ts).rssi = s.rssi := rfl
@[simp] theorem State.withEnv_hTotal (s : State) (ts : List Turn) : (s.withEnv ts).hTotal = s.hTotal := rfl
@[simp] theorem State.withEnv_hDst (s : State) (ts : List Turn) : (s.withEnv ts).hDst = s.hDst := rfl
@[simp] theorem State.withEnv_hSrc (s : State) (ts : List Turn) : (s.withEnv ts).hSrc = s.hSrc := rfl
@[simp] theorem State.withEnv_hCtl (s : State) (ts : List Turn) : (s.withEnv ts).hCtl = s.hCtl := rfl
@[simp] theorem State.withEnv_plen (s : State) (ts : List Turn) : (s.withEnv ts).plen = s.plen := rfl
@[simp] theorem State.withEnv_rxBuf (s : State) (ts : List Turn) : (s.withEnv ts).rxBuf = s.rxBuf := rfl
@[simp] theorem State.withEnv_pktOut (s : State) (ts : List Turn) : (s.withEnv ts).pktOut = s.pktOut := rfl
@[simp] theorem State.withEnv_editOld (s : State) (ts : List Turn) : (s.withEnv ts).editOld = s.editOld := rfl
@[simp] theorem State.withEnv_busRx (s : State) (ts : List Turn) : (s.withEnv ts).busRx = s.busRx := rfl
@[simp] theorem State.withEnv_env (s : State) (ts : List Turn) : (s.withEnv ts).env = ts := rfl
@[simp] theorem State.withEnv_trace (s : State) (ts : List Turn) : (s.withEnv ts).trace = s.trace := rfl

/-! ### `State.latchEdit` -/

@[simp] theorem State.latchEdit_params (v : Byte) (s : State) : (s.latchEdit v).params = s.params := rfl
@[simp] theorem State.latchEdit_seq (v : Byte) (s : State) : (s.latchEdit v).seq = s.seq := rfl
@[simp] theorem State.latchEdit_setupDone (v : Byte) (s : State) : (s.latchEdit v).setupDone = s.setupDone := rfl
@[simp] theorem State.latchEdit_txPower (v : Byte) (s : State) : (s.latchEdit v).txPower = s.txPower := rfl
@[simp] theorem State.latchEdit_modeShadow (v : Byte) (s : State) : (s.latchEdit v).modeShadow = s.modeShadow := rfl
@[simp] theorem State.latchEdit_evtPending (v : Byte) (s : State) : (s.latchEdit v).evtPending = s.evtPending := rfl
@[simp] theorem State.latchEdit_arbEnabled (v : Byte) (s : State) : (s.latchEdit v).arbEnabled = s.arbEnabled := rfl
@[simp] theorem State.latchEdit_errSlot (v : Byte) (s : State) : (s.latchEdit v).errSlot = s.errSlot := rfl
@[simp] theorem State.latchEdit_attempt (v : Byte) (s : State) : (s.latchEdit v).attempt = s.attempt := rfl
@[simp] theorem State.latchEdit_polls (v : Byte) (s : State) : (s.latchEdit v).polls = s.polls := rfl
@[simp] theorem State.latchEdit_txDst (v : Byte) (s : State) : (s.latchEdit v).txDst = s.txDst := rfl
@[simp] theorem State.latchEdit_txPayload (v : Byte) (s : State) : (s.latchEdit v).txPayload = s.txPayload := rfl
@[simp] theorem State.latchEdit_cfg (v : Byte) (s : State) : (s.latchEdit v).cfg = s.cfg := rfl
@[simp] theorem State.latchEdit_cfgI (v : Byte) (s : State) : (s.latchEdit v).cfgI = s.cfgI := rfl
@[simp] theorem State.latchEdit_flags (v : Byte) (s : State) : (s.latchEdit v).flags = s.flags := rfl
@[simp] theorem State.latchEdit_rssiRaw (v : Byte) (s : State) : (s.latchEdit v).rssiRaw = s.rssiRaw := rfl
@[simp] theorem State.latchEdit_rssi (v : Byte) (s : State) : (s.latchEdit v).rssi = s.rssi := rfl
@[simp] theorem State.latchEdit_hTotal (v : Byte) (s : State) : (s.latchEdit v).hTotal = s.hTotal := rfl
@[simp] theorem State.latchEdit_hDst (v : Byte) (s : State) : (s.latchEdit v).hDst = s.hDst := rfl
@[simp] theorem State.latchEdit_hSrc (v : Byte) (s : State) : (s.latchEdit v).hSrc = s.hSrc := rfl
@[simp] theorem State.latchEdit_hCtl (v : Byte) (s : State) : (s.latchEdit v).hCtl = s.hCtl := rfl
@[simp] theorem State.latchEdit_plen (v : Byte) (s : State) : (s.latchEdit v).plen = s.plen := rfl
@[simp] theorem State.latchEdit_rxBuf (v : Byte) (s : State) : (s.latchEdit v).rxBuf = s.rxBuf := rfl
@[simp] theorem State.latchEdit_pktOut (v : Byte) (s : State) : (s.latchEdit v).pktOut = s.pktOut := rfl
@[simp] theorem State.latchEdit_editOld (v : Byte) (s : State) : (s.latchEdit v).editOld = v := rfl
@[simp] theorem State.latchEdit_busRx (v : Byte) (s : State) : (s.latchEdit v).busRx = s.busRx := rfl
@[simp] theorem State.latchEdit_env (v : Byte) (s : State) : (s.latchEdit v).env = s.env := rfl
@[simp] theorem State.latchEdit_trace (v : Byte) (s : State) : (s.latchEdit v).trace = s.trace := rfl

/-! ### `State.countAttempt` -/

@[simp] theorem State.countAttempt_params (s : State) : (s.countAttempt).params = s.params := rfl
@[simp] theorem State.countAttempt_seq (s : State) : (s.countAttempt).seq = s.seq := rfl
@[simp] theorem State.countAttempt_setupDone (s : State) : (s.countAttempt).setupDone = s.setupDone := rfl
@[simp] theorem State.countAttempt_txPower (s : State) : (s.countAttempt).txPower = s.txPower := rfl
@[simp] theorem State.countAttempt_modeShadow (s : State) : (s.countAttempt).modeShadow = s.modeShadow := rfl
@[simp] theorem State.countAttempt_evtPending (s : State) : (s.countAttempt).evtPending = s.evtPending := rfl
@[simp] theorem State.countAttempt_arbEnabled (s : State) : (s.countAttempt).arbEnabled = s.arbEnabled := rfl
@[simp] theorem State.countAttempt_errSlot (s : State) : (s.countAttempt).errSlot = s.errSlot := rfl
@[simp] theorem State.countAttempt_attempt (s : State) : (s.countAttempt).attempt = s.attempt + 1 := rfl
@[simp] theorem State.countAttempt_polls (s : State) : (s.countAttempt).polls = s.polls := rfl
@[simp] theorem State.countAttempt_txDst (s : State) : (s.countAttempt).txDst = s.txDst := rfl
@[simp] theorem State.countAttempt_txPayload (s : State) : (s.countAttempt).txPayload = s.txPayload := rfl
@[simp] theorem State.countAttempt_cfg (s : State) : (s.countAttempt).cfg = s.cfg := rfl
@[simp] theorem State.countAttempt_cfgI (s : State) : (s.countAttempt).cfgI = s.cfgI := rfl
@[simp] theorem State.countAttempt_flags (s : State) : (s.countAttempt).flags = s.flags := rfl
@[simp] theorem State.countAttempt_rssiRaw (s : State) : (s.countAttempt).rssiRaw = s.rssiRaw := rfl
@[simp] theorem State.countAttempt_rssi (s : State) : (s.countAttempt).rssi = s.rssi := rfl
@[simp] theorem State.countAttempt_hTotal (s : State) : (s.countAttempt).hTotal = s.hTotal := rfl
@[simp] theorem State.countAttempt_hDst (s : State) : (s.countAttempt).hDst = s.hDst := rfl
@[simp] theorem State.countAttempt_hSrc (s : State) : (s.countAttempt).hSrc = s.hSrc := rfl
@[simp] theorem State.countAttempt_hCtl (s : State) : (s.countAttempt).hCtl = s.hCtl := rfl
@[simp] theorem State.countAttempt_plen (s : State) : (s.countAttempt).plen = s.plen := rfl
@[simp] theorem State.countAttempt_rxBuf (s : State) : (s.countAttempt).rxBuf = s.rxBuf := rfl
@[simp] theorem State.countAttempt_pktOut (s : State) : (s.countAttempt).pktOut = s.pktOut := rfl
@[simp] theorem State.countAttempt_editOld (s : State) : (s.countAttempt).editOld = s.editOld := rfl
@[simp] theorem State.countAttempt_busRx (s : State) : (s.countAttempt).busRx = s.busRx := rfl
@[simp] theorem State.countAttempt_env (s : State) : (s.countAttempt).env = s.env := rfl
@[simp] theorem State.countAttempt_trace (s : State) : (s.countAttempt).trace = s.trace := rfl

/-! ### `State.countPoll` -/

@[simp] theorem State.countPoll_params (s : State) : (s.countPoll).params = s.params := rfl
@[simp] theorem State.countPoll_seq (s : State) : (s.countPoll).seq = s.seq := rfl
@[simp] theorem State.countPoll_setupDone (s : State) : (s.countPoll).setupDone = s.setupDone := rfl
@[simp] theorem State.countPoll_txPower (s : State) : (s.countPoll).txPower = s.txPower := rfl
@[simp] theorem State.countPoll_modeShadow (s : State) : (s.countPoll).modeShadow = s.modeShadow := rfl
@[simp] theorem State.countPoll_evtPending (s : State) : (s.countPoll).evtPending = s.evtPending := rfl
@[simp] theorem State.countPoll_arbEnabled (s : State) : (s.countPoll).arbEnabled = s.arbEnabled := rfl
@[simp] theorem State.countPoll_errSlot (s : State) : (s.countPoll).errSlot = s.errSlot := rfl
@[simp] theorem State.countPoll_attempt (s : State) : (s.countPoll).attempt = s.attempt := rfl
@[simp] theorem State.countPoll_polls (s : State) : (s.countPoll).polls = s.polls + 1 := rfl
@[simp] theorem State.countPoll_txDst (s : State) : (s.countPoll).txDst = s.txDst := rfl
@[simp] theorem State.countPoll_txPayload (s : State) : (s.countPoll).txPayload = s.txPayload := rfl
@[simp] theorem State.countPoll_cfg (s : State) : (s.countPoll).cfg = s.cfg := rfl
@[simp] theorem State.countPoll_cfgI (s : State) : (s.countPoll).cfgI = s.cfgI := rfl
@[simp] theorem State.countPoll_flags (s : State) : (s.countPoll).flags = s.flags := rfl
@[simp] theorem State.countPoll_rssiRaw (s : State) : (s.countPoll).rssiRaw = s.rssiRaw := rfl
@[simp] theorem State.countPoll_rssi (s : State) : (s.countPoll).rssi = s.rssi := rfl
@[simp] theorem State.countPoll_hTotal (s : State) : (s.countPoll).hTotal = s.hTotal := rfl
@[simp] theorem State.countPoll_hDst (s : State) : (s.countPoll).hDst = s.hDst := rfl
@[simp] theorem State.countPoll_hSrc (s : State) : (s.countPoll).hSrc = s.hSrc := rfl
@[simp] theorem State.countPoll_hCtl (s : State) : (s.countPoll).hCtl = s.hCtl := rfl
@[simp] theorem State.countPoll_plen (s : State) : (s.countPoll).plen = s.plen := rfl
@[simp] theorem State.countPoll_rxBuf (s : State) : (s.countPoll).rxBuf = s.rxBuf := rfl
@[simp] theorem State.countPoll_pktOut (s : State) : (s.countPoll).pktOut = s.pktOut := rfl
@[simp] theorem State.countPoll_editOld (s : State) : (s.countPoll).editOld = s.editOld := rfl
@[simp] theorem State.countPoll_busRx (s : State) : (s.countPoll).busRx = s.busRx := rfl
@[simp] theorem State.countPoll_env (s : State) : (s.countPoll).env = s.env := rfl
@[simp] theorem State.countPoll_trace (s : State) : (s.countPoll).trace = s.trace := rfl

/-! ### `State.clearShadow` -/

@[simp] theorem State.clearShadow_params (s : State) : (s.clearShadow).params = s.params := rfl
@[simp] theorem State.clearShadow_seq (s : State) : (s.clearShadow).seq = s.seq := rfl
@[simp] theorem State.clearShadow_setupDone (s : State) : (s.clearShadow).setupDone = s.setupDone := rfl
@[simp] theorem State.clearShadow_txPower (s : State) : (s.clearShadow).txPower = s.txPower := rfl
@[simp] theorem State.clearShadow_modeShadow (s : State) : (s.clearShadow).modeShadow = none := rfl
@[simp] theorem State.clearShadow_evtPending (s : State) : (s.clearShadow).evtPending = s.evtPending := rfl
@[simp] theorem State.clearShadow_arbEnabled (s : State) : (s.clearShadow).arbEnabled = s.arbEnabled := rfl
@[simp] theorem State.clearShadow_errSlot (s : State) : (s.clearShadow).errSlot = s.errSlot := rfl
@[simp] theorem State.clearShadow_attempt (s : State) : (s.clearShadow).attempt = s.attempt := rfl
@[simp] theorem State.clearShadow_polls (s : State) : (s.clearShadow).polls = s.polls := rfl
@[simp] theorem State.clearShadow_txDst (s : State) : (s.clearShadow).txDst = s.txDst := rfl
@[simp] theorem State.clearShadow_txPayload (s : State) : (s.clearShadow).txPayload = s.txPayload := rfl
@[simp] theorem State.clearShadow_cfg (s : State) : (s.clearShadow).cfg = s.cfg := rfl
@[simp] theorem State.clearShadow_cfgI (s : State) : (s.clearShadow).cfgI = s.cfgI := rfl
@[simp] theorem State.clearShadow_flags (s : State) : (s.clearShadow).flags = s.flags := rfl
@[simp] theorem State.clearShadow_rssiRaw (s : State) : (s.clearShadow).rssiRaw = s.rssiRaw := rfl
@[simp] theorem State.clearShadow_rssi (s : State) : (s.clearShadow).rssi = s.rssi := rfl
@[simp] theorem State.clearShadow_hTotal (s : State) : (s.clearShadow).hTotal = s.hTotal := rfl
@[simp] theorem State.clearShadow_hDst (s : State) : (s.clearShadow).hDst = s.hDst := rfl
@[simp] theorem State.clearShadow_hSrc (s : State) : (s.clearShadow).hSrc = s.hSrc := rfl
@[simp] theorem State.clearShadow_hCtl (s : State) : (s.clearShadow).hCtl = s.hCtl := rfl
@[simp] theorem State.clearShadow_plen (s : State) : (s.clearShadow).plen = s.plen := rfl
@[simp] theorem State.clearShadow_rxBuf (s : State) : (s.clearShadow).rxBuf = s.rxBuf := rfl
@[simp] theorem State.clearShadow_pktOut (s : State) : (s.clearShadow).pktOut = s.pktOut := rfl
@[simp] theorem State.clearShadow_editOld (s : State) : (s.clearShadow).editOld = s.editOld := rfl
@[simp] theorem State.clearShadow_busRx (s : State) : (s.clearShadow).busRx = s.busRx := rfl
@[simp] theorem State.clearShadow_env (s : State) : (s.clearShadow).env = s.env := rfl
@[simp] theorem State.clearShadow_trace (s : State) : (s.clearShadow).trace = s.trace := rfl

/-! ### `State.setShadow` -/

@[simp] theorem State.setShadow_params (m : OpMode) (s : State) : (s.setShadow m).params = s.params := rfl
@[simp] theorem State.setShadow_seq (m : OpMode) (s : State) : (s.setShadow m).seq = s.seq := rfl
@[simp] theorem State.setShadow_setupDone (m : OpMode) (s : State) : (s.setShadow m).setupDone = s.setupDone := rfl
@[simp] theorem State.setShadow_txPower (m : OpMode) (s : State) : (s.setShadow m).txPower = s.txPower := rfl
@[simp] theorem State.setShadow_modeShadow (m : OpMode) (s : State) : (s.setShadow m).modeShadow = some m := rfl
@[simp] theorem State.setShadow_evtPending (m : OpMode) (s : State) : (s.setShadow m).evtPending = s.evtPending := rfl
@[simp] theorem State.setShadow_arbEnabled (m : OpMode) (s : State) : (s.setShadow m).arbEnabled = s.arbEnabled := rfl
@[simp] theorem State.setShadow_errSlot (m : OpMode) (s : State) : (s.setShadow m).errSlot = s.errSlot := rfl
@[simp] theorem State.setShadow_attempt (m : OpMode) (s : State) : (s.setShadow m).attempt = s.attempt := rfl
@[simp] theorem State.setShadow_polls (m : OpMode) (s : State) : (s.setShadow m).polls = s.polls := rfl
@[simp] theorem State.setShadow_txDst (m : OpMode) (s : State) : (s.setShadow m).txDst = s.txDst := rfl
@[simp] theorem State.setShadow_txPayload (m : OpMode) (s : State) : (s.setShadow m).txPayload = s.txPayload := rfl
@[simp] theorem State.setShadow_cfg (m : OpMode) (s : State) : (s.setShadow m).cfg = s.cfg := rfl
@[simp] theorem State.setShadow_cfgI (m : OpMode) (s : State) : (s.setShadow m).cfgI = s.cfgI := rfl
@[simp] theorem State.setShadow_flags (m : OpMode) (s : State) : (s.setShadow m).flags = s.flags := rfl
@[simp] theorem State.setShadow_rssiRaw (m : OpMode) (s : State) : (s.setShadow m).rssiRaw = s.rssiRaw := rfl
@[simp] theorem State.setShadow_rssi (m : OpMode) (s : State) : (s.setShadow m).rssi = s.rssi := rfl
@[simp] theorem State.setShadow_hTotal (m : OpMode) (s : State) : (s.setShadow m).hTotal = s.hTotal := rfl
@[simp] theorem State.setShadow_hDst (m : OpMode) (s : State) : (s.setShadow m).hDst = s.hDst := rfl
@[simp] theorem State.setShadow_hSrc (m : OpMode) (s : State) : (s.setShadow m).hSrc = s.hSrc := rfl
@[simp] theorem State.setShadow_hCtl (m : OpMode) (s : State) : (s.setShadow m).hCtl = s.hCtl := rfl
@[simp] theorem State.setShadow_plen (m : OpMode) (s : State) : (s.setShadow m).plen = s.plen := rfl
@[simp] theorem State.setShadow_rxBuf (m : OpMode) (s : State) : (s.setShadow m).rxBuf = s.rxBuf := rfl
@[simp] theorem State.setShadow_pktOut (m : OpMode) (s : State) : (s.setShadow m).pktOut = s.pktOut := rfl
@[simp] theorem State.setShadow_editOld (m : OpMode) (s : State) : (s.setShadow m).editOld = s.editOld := rfl
@[simp] theorem State.setShadow_busRx (m : OpMode) (s : State) : (s.setShadow m).busRx = s.busRx := rfl
@[simp] theorem State.setShadow_env (m : OpMode) (s : State) : (s.setShadow m).env = s.env := rfl
@[simp] theorem State.setShadow_trace (m : OpMode) (s : State) : (s.setShadow m).trace = s.trace := rfl

/-! ### `State.dropSetup` -/

@[simp] theorem State.dropSetup_params (s : State) : (s.dropSetup).params = s.params := rfl
@[simp] theorem State.dropSetup_seq (s : State) : (s.dropSetup).seq = s.seq := rfl
@[simp] theorem State.dropSetup_setupDone (s : State) : (s.dropSetup).setupDone = false := rfl
@[simp] theorem State.dropSetup_txPower (s : State) : (s.dropSetup).txPower = s.txPower := rfl
@[simp] theorem State.dropSetup_modeShadow (s : State) : (s.dropSetup).modeShadow = none := rfl
@[simp] theorem State.dropSetup_evtPending (s : State) : (s.dropSetup).evtPending = s.evtPending := rfl
@[simp] theorem State.dropSetup_arbEnabled (s : State) : (s.dropSetup).arbEnabled = s.arbEnabled := rfl
@[simp] theorem State.dropSetup_errSlot (s : State) : (s.dropSetup).errSlot = s.errSlot := rfl
@[simp] theorem State.dropSetup_attempt (s : State) : (s.dropSetup).attempt = s.attempt := rfl
@[simp] theorem State.dropSetup_polls (s : State) : (s.dropSetup).polls = s.polls := rfl
@[simp] theorem State.dropSetup_txDst (s : State) : (s.dropSetup).txDst = s.txDst := rfl
@[simp] theorem State.dropSetup_txPayload (s : State) : (s.dropSetup).txPayload = s.txPayload := rfl
@[simp] theorem State.dropSetup_cfg (s : State) : (s.dropSetup).cfg = s.cfg := rfl
@[simp] theorem State.dropSetup_cfgI (s : State) : (s.dropSetup).cfgI = s.cfgI := rfl
@[simp] theorem State.dropSetup_flags (s : State) : (s.dropSetup).flags = s.flags := rfl
@[simp] theorem State.dropSetup_rssiRaw (s : State) : (s.dropSetup).rssiRaw = s.rssiRaw := rfl
@[simp] theorem State.dropSetup_rssi (s : State) : (s.dropSetup).rssi = s.rssi := rfl
@[simp] theorem State.dropSetup_hTotal (s : State) : (s.dropSetup).hTotal = s.hTotal := rfl
@[simp] theorem State.dropSetup_hDst (s : State) : (s.dropSetup).hDst = s.hDst := rfl
@[simp] theorem State.dropSetup_hSrc (s : State) : (s.dropSetup).hSrc = s.hSrc := rfl
@[simp] theorem State.dropSetup_hCtl (s : State) : (s.dropSetup).hCtl = s.hCtl := rfl
@[simp] theorem State.dropSetup_plen (s : State) : (s.dropSetup).plen = s.plen := rfl
@[simp] theorem State.dropSetup_rxBuf (s : State) : (s.dropSetup).rxBuf = s.rxBuf := rfl
@[simp] theorem State.dropSetup_pktOut (s : State) : (s.dropSetup).pktOut = s.pktOut := rfl
@[simp] theorem State.dropSetup_editOld (s : State) : (s.dropSetup).editOld = s.editOld := rfl
@[simp] theorem State.dropSetup_busRx (s : State) : (s.dropSetup).busRx = s.busRx := rfl
@[simp] theorem State.dropSetup_env (s : State) : (s.dropSetup).env = s.env := rfl
@[simp] theorem State.dropSetup_trace (s : State) : (s.dropSetup).trace = s.trace := rfl

/-! ### `State.setDone` -/

@[simp] theorem State.setDone_params (s : State) : (s.setDone).params = s.params := rfl
@[simp] theorem State.setDone_seq (s : State) : (s.setDone).seq = s.seq := rfl
@[simp] theorem State.setDone_setupDone (s : State) : (s.setDone).setupDone = true := rfl
@[simp] theorem State.setDone_txPower (s : State) : (s.setDone).txPower = s.txPower := rfl
@[simp] theorem State.setDone_modeShadow (s : State) : (s.setDone).modeShadow = s.modeShadow := rfl
@[simp] theorem State.setDone_evtPending (s : State) : (s.setDone).evtPending = s.evtPending := rfl
@[simp] theorem State.setDone_arbEnabled (s : State) : (s.setDone).arbEnabled = s.arbEnabled := rfl
@[simp] theorem State.setDone_errSlot (s : State) : (s.setDone).errSlot = s.errSlot := rfl
@[simp] theorem State.setDone_attempt (s : State) : (s.setDone).attempt = s.attempt := rfl
@[simp] theorem State.setDone_polls (s : State) : (s.setDone).polls = s.polls := rfl
@[simp] theorem State.setDone_txDst (s : State) : (s.setDone).txDst = s.txDst := rfl
@[simp] theorem State.setDone_txPayload (s : State) : (s.setDone).txPayload = s.txPayload := rfl
@[simp] theorem State.setDone_cfg (s : State) : (s.setDone).cfg = s.cfg := rfl
@[simp] theorem State.setDone_cfgI (s : State) : (s.setDone).cfgI = s.cfgI := rfl
@[simp] theorem State.setDone_flags (s : State) : (s.setDone).flags = s.flags := rfl
@[simp] theorem State.setDone_rssiRaw (s : State) : (s.setDone).rssiRaw = s.rssiRaw := rfl
@[simp] theorem State.setDone_rssi (s : State) : (s.setDone).rssi = s.rssi := rfl
@[simp] theorem State.setDone_hTotal (s : State) : (s.setDone).hTotal = s.hTotal := rfl
@[simp] theorem State.setDone_hDst (s : State) : (s.setDone).hDst = s.hDst := rfl
@[simp] theorem State.setDone_hSrc (s : State) : (s.setDone).hSrc = s.hSrc := rfl
@[simp] theorem State.setDone_hCtl (s : State) : (s.setDone).hCtl = s.hCtl := rfl
@[simp] theorem State.setDone_plen (s : State) : (s.setDone).plen = s.plen := rfl
@[simp] theorem State.setDone_rxBuf (s : State) : (s.setDone).rxBuf = s.rxBuf := rfl
@[simp] theorem State.setDone_pktOut (s : State) : (s.setDone).pktOut = s.pktOut := rfl
@[simp] theorem State.setDone_editOld (s : State) : (s.setDone).editOld = s.editOld := rfl
@[simp] theorem State.setDone_busRx (s : State) : (s.setDone).busRx = s.busRx := rfl
@[simp] theorem State.setDone_env (s : State) : (s.setDone).env = s.env := rfl
@[simp] theorem State.setDone_trace (s : State) : (s.setDone).trace = s.trace := rfl

/-! ### `State.storePower` -/

@[simp] theorem State.storePower_params (q : Int) (s : State) : (s.storePower q).params = s.params := rfl
@[simp] theorem State.storePower_seq (q : Int) (s : State) : (s.storePower q).seq = s.seq := rfl
@[simp] theorem State.storePower_setupDone (q : Int) (s : State) : (s.storePower q).setupDone = s.setupDone := rfl
@[simp] theorem State.storePower_txPower (q : Int) (s : State) : (s.storePower q).txPower = some q := rfl
@[simp] theorem State.storePower_modeShadow (q : Int) (s : State) : (s.storePower q).modeShadow = s.modeShadow := rfl
@[simp] theorem State.storePower_evtPending (q : Int) (s : State) : (s.storePower q).evtPending = s.evtPending := rfl
@[simp] theorem State.storePower_arbEnabled (q : Int) (s : State) : (s.storePower q).arbEnabled = s.arbEnabled := rfl
@[simp] theorem State.storePower_errSlot (q : Int) (s : State) : (s.storePower q).errSlot = s.errSlot := rfl
@[simp] theorem State.storePower_attempt (q : Int) (s : State) : (s.storePower q).attempt = s.attempt := rfl
@[simp] theorem State.storePower_polls (q : Int) (s : State) : (s.storePower q).polls = s.polls := rfl
@[simp] theorem State.storePower_txDst (q : Int) (s : State) : (s.storePower q).txDst = s.txDst := rfl
@[simp] theorem State.storePower_txPayload (q : Int) (s : State) : (s.storePower q).txPayload = s.txPayload := rfl
@[simp] theorem State.storePower_cfg (q : Int) (s : State) : (s.storePower q).cfg = s.cfg := rfl
@[simp] theorem State.storePower_cfgI (q : Int) (s : State) : (s.storePower q).cfgI = s.cfgI := rfl
@[simp] theorem State.storePower_flags (q : Int) (s : State) : (s.storePower q).flags = s.flags := rfl
@[simp] theorem State.storePower_rssiRaw (q : Int) (s : State) : (s.storePower q).rssiRaw = s.rssiRaw := rfl
@[simp] theorem State.storePower_rssi (q : Int) (s : State) : (s.storePower q).rssi = s.rssi := rfl
@[simp] theorem State.storePower_hTotal (q : Int) (s : State) : (s.storePower q).hTotal = s.hTotal := rfl
@[simp] theorem State.storePower_hDst (q : Int) (s : State) : (s.storePower q).hDst = s.hDst := rfl
@[simp] theorem State.storePower_hSrc (q : Int) (s : State) : (s.storePower q).hSrc = s.hSrc := rfl
@[simp] theorem State.storePower_hCtl (q : Int) (s : State) : (s.storePower q).hCtl = s.hCtl := rfl
@[simp] theorem State.storePower_plen (q : Int) (s : State) : (s.storePower q).plen = s.plen := rfl
@[simp] theorem State.storePower_rxBuf (q : Int) (s : State) : (s.storePower q).rxBuf = s.rxBuf := rfl
@[simp] theorem State.storePower_pktOut (q : Int) (s : State) : (s.storePower q).pktOut = s.pktOut := rfl
@[simp] theorem State.storePower_editOld (q : Int) (s : State) : (s.storePower q).editOld = s.editOld := rfl
@[simp] theorem State.storePower_busRx (q : Int) (s : State) : (s.storePower q).busRx = s.busRx := rfl
@[simp] theorem State.storePower_env (q : Int) (s : State) : (s.storePower q).env = s.env := rfl
@[simp] theorem State.storePower_trace (q : Int) (s : State) : (s.storePower q).trace = s.trace := rfl

/-! ### `State.latchConfig` -/

@[simp] theorem State.latchConfig_params (c : List (Byte × Byte)) (s : State) : (s.latchConfig c).params = s.params := rfl
@[simp] theorem State.latchConfig_seq (c : List (Byte × Byte)) (s : State) : (s.latchConfig c).seq = s.seq := rfl
@[simp] theorem State.latchConfig_setupDone (c : List (Byte × Byte)) (s : State) : (s.latchConfig c).setupDone = s.setupDone := rfl
@[simp] theorem State.latchConfig_txPower (c : List (Byte × Byte)) (s : State) : (s.latchConfig c).txPower = s.txPower := rfl
@[simp] theorem State.latchConfig_modeShadow (c : List (Byte × Byte)) (s : State) : (s.latchConfig c).modeShadow = s.modeShadow := rfl
@[simp] theorem State.latchConfig_evtPending (c : List (Byte × Byte)) (s : State) : (s.latchConfig c).evtPending = s.evtPending := rfl
@[simp] theorem State.latchConfig_arbEnabled (c : List (Byte × Byte)) (s : State) : (s.latchConfig c).arbEnabled = s.arbEnabled := rfl
@[simp] theorem State.latchConfig_errSlot (c : List (Byte × Byte)) (s : State) : (s.latchConfig c).errSlot = s.errSlot := rfl
@[simp] theorem State.latchConfig_attempt (c : List (Byte × Byte)) (s : State) : (s.latchConfig c).attempt = s.attempt := rfl
@[simp] theorem State.latchConfig_polls (c : List (Byte × Byte)) (s : State) : (s.latchConfig c).polls = s.polls := rfl
@[simp] theorem State.latchConfig_txDst (c : List (Byte × Byte)) (s : State) : (s.latchConfig c).txDst = s.txDst := rfl
@[simp] theorem State.latchConfig_txPayload (c : List (Byte × Byte)) (s : State) : (s.latchConfig c).txPayload = s.txPayload := rfl
@[simp] theorem State.latchConfig_cfg (c : List (Byte × Byte)) (s : State) : (s.latchConfig c).cfg = c := rfl
@[simp] theorem State.latchConfig_cfgI (c : List (Byte × Byte)) (s : State) : (s.latchConfig c).cfgI = s.cfgI := rfl
@[simp] theorem State.latchConfig_flags (c : List (Byte × Byte)) (s : State) : (s.latchConfig c).flags = s.flags := rfl
@[simp] theorem State.latchConfig_rssiRaw (c : List (Byte × Byte)) (s : State) : (s.latchConfig c).rssiRaw = s.rssiRaw := rfl
@[simp] theorem State.latchConfig_rssi (c : List (Byte × Byte)) (s : State) : (s.latchConfig c).rssi = s.rssi := rfl
@[simp] theorem State.latchConfig_hTotal (c : List (Byte × Byte)) (s : State) : (s.latchConfig c).hTotal = s.hTotal := rfl
@[simp] theorem State.latchConfig_hDst (c : List (Byte × Byte)) (s : State) : (s.latchConfig c).hDst = s.hDst := rfl
@[simp] theorem State.latchConfig_hSrc (c : List (Byte × Byte)) (s : State) : (s.latchConfig c).hSrc = s.hSrc := rfl
@[simp] theorem State.latchConfig_hCtl (c : List (Byte × Byte)) (s : State) : (s.latchConfig c).hCtl = s.hCtl := rfl
@[simp] theorem State.latchConfig_plen (c : List (Byte × Byte)) (s : State) : (s.latchConfig c).plen = s.plen := rfl
@[simp] theorem State.latchConfig_rxBuf (c : List (Byte × Byte)) (s : State) : (s.latchConfig c).rxBuf = s.rxBuf := rfl
@[simp] theorem State.latchConfig_pktOut (c : List (Byte × Byte)) (s : State) : (s.latchConfig c).pktOut = s.pktOut := rfl
@[simp] theorem State.latchConfig_editOld (c : List (Byte × Byte)) (s : State) : (s.latchConfig c).editOld = s.editOld := rfl
@[simp] theorem State.latchConfig_busRx (c : List (Byte × Byte)) (s : State) : (s.latchConfig c).busRx = s.busRx := rfl
@[simp] theorem State.latchConfig_env (c : List (Byte × Byte)) (s : State) : (s.latchConfig c).env = s.env := rfl
@[simp] theorem State.latchConfig_trace (c : List (Byte × Byte)) (s : State) : (s.latchConfig c).trace = s.trace := rfl

/-! ### `State.firstPair` -/

@[simp] theorem State.firstPair_params (s : State) : (s.firstPair).params = s.params := rfl
@[simp] theorem State.firstPair_seq (s : State) : (s.firstPair).seq = s.seq := rfl
@[simp] theorem State.firstPair_setupDone (s : State) : (s.firstPair).setupDone = s.setupDone := rfl
@[simp] theorem State.firstPair_txPower (s : State) : (s.firstPair).txPower = s.txPower := rfl
@[simp] theorem State.firstPair_modeShadow (s : State) : (s.firstPair).modeShadow = s.modeShadow := rfl
@[simp] theorem State.firstPair_evtPending (s : State) : (s.firstPair).evtPending = s.evtPending := rfl
@[simp] theorem State.firstPair_arbEnabled (s : State) : (s.firstPair).arbEnabled = s.arbEnabled := rfl
@[simp] theorem State.firstPair_errSlot (s : State) : (s.firstPair).errSlot = s.errSlot := rfl
@[simp] theorem State.firstPair_attempt (s : State) : (s.firstPair).attempt = s.attempt := rfl
@[simp] theorem State.firstPair_polls (s : State) : (s.firstPair).polls = s.polls := rfl
@[simp] theorem State.firstPair_txDst (s : State) : (s.firstPair).txDst = s.txDst := rfl
@[simp] theorem State.firstPair_txPayload (s : State) : (s.firstPair).txPayload = s.txPayload := rfl
@[simp] theorem State.firstPair_cfg (s : State) : (s.firstPair).cfg = s.cfg := rfl
@[simp] theorem State.firstPair_cfgI (s : State) : (s.firstPair).cfgI = 0 := rfl
@[simp] theorem State.firstPair_flags (s : State) : (s.firstPair).flags = s.flags := rfl
@[simp] theorem State.firstPair_rssiRaw (s : State) : (s.firstPair).rssiRaw = s.rssiRaw := rfl
@[simp] theorem State.firstPair_rssi (s : State) : (s.firstPair).rssi = s.rssi := rfl
@[simp] theorem State.firstPair_hTotal (s : State) : (s.firstPair).hTotal = s.hTotal := rfl
@[simp] theorem State.firstPair_hDst (s : State) : (s.firstPair).hDst = s.hDst := rfl
@[simp] theorem State.firstPair_hSrc (s : State) : (s.firstPair).hSrc = s.hSrc := rfl
@[simp] theorem State.firstPair_hCtl (s : State) : (s.firstPair).hCtl = s.hCtl := rfl
@[simp] theorem State.firstPair_plen (s : State) : (s.firstPair).plen = s.plen := rfl
@[simp] theorem State.firstPair_rxBuf (s : State) : (s.firstPair).rxBuf = s.rxBuf := rfl
@[simp] theorem State.firstPair_pktOut (s : State) : (s.firstPair).pktOut = s.pktOut := rfl
@[simp] theorem State.firstPair_editOld (s : State) : (s.firstPair).editOld = s.editOld := rfl
@[simp] theorem State.firstPair_busRx (s : State) : (s.firstPair).busRx = s.busRx := rfl
@[simp] theorem State.firstPair_env (s : State) : (s.firstPair).env = s.env := rfl
@[simp] theorem State.firstPair_trace (s : State) : (s.firstPair).trace = s.trace := rfl

/-! ### `State.nextPair` -/

@[simp] theorem State.nextPair_params (s : State) : (s.nextPair).params = s.params := rfl
@[simp] theorem State.nextPair_seq (s : State) : (s.nextPair).seq = s.seq := rfl
@[simp] theorem State.nextPair_setupDone (s : State) : (s.nextPair).setupDone = s.setupDone := rfl
@[simp] theorem State.nextPair_txPower (s : State) : (s.nextPair).txPower = s.txPower := rfl
@[simp] theorem State.nextPair_modeShadow (s : State) : (s.nextPair).modeShadow = s.modeShadow := rfl
@[simp] theorem State.nextPair_evtPending (s : State) : (s.nextPair).evtPending = s.evtPending := rfl
@[simp] theorem State.nextPair_arbEnabled (s : State) : (s.nextPair).arbEnabled = s.arbEnabled := rfl
@[simp] theorem State.nextPair_errSlot (s : State) : (s.nextPair).errSlot = s.errSlot := rfl
@[simp] theorem State.nextPair_attempt (s : State) : (s.nextPair).attempt = s.attempt := rfl
@[simp] theorem State.nextPair_polls (s : State) : (s.nextPair).polls = s.polls := rfl
@[simp] theorem State.nextPair_txDst (s : State) : (s.nextPair).txDst = s.txDst := rfl
@[simp] theorem State.nextPair_txPayload (s : State) : (s.nextPair).txPayload = s.txPayload := rfl
@[simp] theorem State.nextPair_cfg (s : State) : (s.nextPair).cfg = s.cfg := rfl
@[simp] theorem State.nextPair_cfgI (s : State) : (s.nextPair).cfgI = s.cfgI + 1 := rfl
@[simp] theorem State.nextPair_flags (s : State) : (s.nextPair).flags = s.flags := rfl
@[simp] theorem State.nextPair_rssiRaw (s : State) : (s.nextPair).rssiRaw = s.rssiRaw := rfl
@[simp] theorem State.nextPair_rssi (s : State) : (s.nextPair).rssi = s.rssi := rfl
@[simp] theorem State.nextPair_hTotal (s : State) : (s.nextPair).hTotal = s.hTotal := rfl
@[simp] theorem State.nextPair_hDst (s : State) : (s.nextPair).hDst = s.hDst := rfl
@[simp] theorem State.nextPair_hSrc (s : State) : (s.nextPair).hSrc = s.hSrc := rfl
@[simp] theorem State.nextPair_hCtl (s : State) : (s.nextPair).hCtl = s.hCtl := rfl
@[simp] theorem State.nextPair_plen (s : State) : (s.nextPair).plen = s.plen := rfl
@[simp] theorem State.nextPair_rxBuf (s : State) : (s.nextPair).rxBuf = s.rxBuf := rfl
@[simp] theorem State.nextPair_pktOut (s : State) : (s.nextPair).pktOut = s.pktOut := rfl
@[simp] theorem State.nextPair_editOld (s : State) : (s.nextPair).editOld = s.editOld := rfl
@[simp] theorem State.nextPair_busRx (s : State) : (s.nextPair).busRx = s.busRx := rfl
@[simp] theorem State.nextPair_env (s : State) : (s.nextPair).env = s.env := rfl
@[simp] theorem State.nextPair_trace (s : State) : (s.nextPair).trace = s.trace := rfl

/-! ### `State.dropConfig` -/

@[simp] theorem State.dropConfig_params (s : State) : (s.dropConfig).params = s.params := rfl
@[simp] theorem State.dropConfig_seq (s : State) : (s.dropConfig).seq = s.seq := rfl
@[simp] theorem State.dropConfig_setupDone (s : State) : (s.dropConfig).setupDone = s.setupDone := rfl
@[simp] theorem State.dropConfig_txPower (s : State) : (s.dropConfig).txPower = s.txPower := rfl
@[simp] theorem State.dropConfig_modeShadow (s : State) : (s.dropConfig).modeShadow = s.modeShadow := rfl
@[simp] theorem State.dropConfig_evtPending (s : State) : (s.dropConfig).evtPending = s.evtPending := rfl
@[simp] theorem State.dropConfig_arbEnabled (s : State) : (s.dropConfig).arbEnabled = s.arbEnabled := rfl
@[simp] theorem State.dropConfig_errSlot (s : State) : (s.dropConfig).errSlot = s.errSlot := rfl
@[simp] theorem State.dropConfig_attempt (s : State) : (s.dropConfig).attempt = s.attempt := rfl
@[simp] theorem State.dropConfig_polls (s : State) : (s.dropConfig).polls = s.polls := rfl
@[simp] theorem State.dropConfig_txDst (s : State) : (s.dropConfig).txDst = s.txDst := rfl
@[simp] theorem State.dropConfig_txPayload (s : State) : (s.dropConfig).txPayload = s.txPayload := rfl
@[simp] theorem State.dropConfig_cfg (s : State) : (s.dropConfig).cfg = [] := rfl
@[simp] theorem State.dropConfig_cfgI (s : State) : (s.dropConfig).cfgI = 0 := rfl
@[simp] theorem State.dropConfig_flags (s : State) : (s.dropConfig).flags = s.flags := rfl
@[simp] theorem State.dropConfig_rssiRaw (s : State) : (s.dropConfig).rssiRaw = s.rssiRaw := rfl
@[simp] theorem State.dropConfig_rssi (s : State) : (s.dropConfig).rssi = s.rssi := rfl
@[simp] theorem State.dropConfig_hTotal (s : State) : (s.dropConfig).hTotal = s.hTotal := rfl
@[simp] theorem State.dropConfig_hDst (s : State) : (s.dropConfig).hDst = s.hDst := rfl
@[simp] theorem State.dropConfig_hSrc (s : State) : (s.dropConfig).hSrc = s.hSrc := rfl
@[simp] theorem State.dropConfig_hCtl (s : State) : (s.dropConfig).hCtl = s.hCtl := rfl
@[simp] theorem State.dropConfig_plen (s : State) : (s.dropConfig).plen = s.plen := rfl
@[simp] theorem State.dropConfig_rxBuf (s : State) : (s.dropConfig).rxBuf = s.rxBuf := rfl
@[simp] theorem State.dropConfig_pktOut (s : State) : (s.dropConfig).pktOut = s.pktOut := rfl
@[simp] theorem State.dropConfig_editOld (s : State) : (s.dropConfig).editOld = s.editOld := rfl
@[simp] theorem State.dropConfig_busRx (s : State) : (s.dropConfig).busRx = s.busRx := rfl
@[simp] theorem State.dropConfig_env (s : State) : (s.dropConfig).env = s.env := rfl
@[simp] theorem State.dropConfig_trace (s : State) : (s.dropConfig).trace = s.trace := rfl

/-! ### `State.latchSend` -/

@[simp] theorem State.latchSend_params (d : Byte) (l : List Byte) (s : State) : (s.latchSend d l).params = s.params := rfl
@[simp] theorem State.latchSend_seq (d : Byte) (l : List Byte) (s : State) : (s.latchSend d l).seq = s.seq := rfl
@[simp] theorem State.latchSend_setupDone (d : Byte) (l : List Byte) (s : State) : (s.latchSend d l).setupDone = s.setupDone := rfl
@[simp] theorem State.latchSend_txPower (d : Byte) (l : List Byte) (s : State) : (s.latchSend d l).txPower = s.txPower := rfl
@[simp] theorem State.latchSend_modeShadow (d : Byte) (l : List Byte) (s : State) : (s.latchSend d l).modeShadow = s.modeShadow := rfl
@[simp] theorem State.latchSend_evtPending (d : Byte) (l : List Byte) (s : State) : (s.latchSend d l).evtPending = s.evtPending := rfl
@[simp] theorem State.latchSend_arbEnabled (d : Byte) (l : List Byte) (s : State) : (s.latchSend d l).arbEnabled = s.arbEnabled := rfl
@[simp] theorem State.latchSend_errSlot (d : Byte) (l : List Byte) (s : State) : (s.latchSend d l).errSlot = s.errSlot := rfl
@[simp] theorem State.latchSend_attempt (d : Byte) (l : List Byte) (s : State) : (s.latchSend d l).attempt = s.attempt := rfl
@[simp] theorem State.latchSend_polls (d : Byte) (l : List Byte) (s : State) : (s.latchSend d l).polls = s.polls := rfl
@[simp] theorem State.latchSend_txDst (d : Byte) (l : List Byte) (s : State) : (s.latchSend d l).txDst = d := rfl
@[simp] theorem State.latchSend_txPayload (d : Byte) (l : List Byte) (s : State) : (s.latchSend d l).txPayload = l := rfl
@[simp] theorem State.latchSend_cfg (d : Byte) (l : List Byte) (s : State) : (s.latchSend d l).cfg = s.cfg := rfl
@[simp] theorem State.latchSend_cfgI (d : Byte) (l : List Byte) (s : State) : (s.latchSend d l).cfgI = s.cfgI := rfl
@[simp] theorem State.latchSend_flags (d : Byte) (l : List Byte) (s : State) : (s.latchSend d l).flags = s.flags := rfl
@[simp] theorem State.latchSend_rssiRaw (d : Byte) (l : List Byte) (s : State) : (s.latchSend d l).rssiRaw = s.rssiRaw := rfl
@[simp] theorem State.latchSend_rssi (d : Byte) (l : List Byte) (s : State) : (s.latchSend d l).rssi = s.rssi := rfl
@[simp] theorem State.latchSend_hTotal (d : Byte) (l : List Byte) (s : State) : (s.latchSend d l).hTotal = s.hTotal := rfl
@[simp] theorem State.latchSend_hDst (d : Byte) (l : List Byte) (s : State) : (s.latchSend d l).hDst = s.hDst := rfl
@[simp] theorem State.latchSend_hSrc (d : Byte) (l : List Byte) (s : State) : (s.latchSend d l).hSrc = s.hSrc := rfl
@[simp] theorem State.latchSend_hCtl (d : Byte) (l : List Byte) (s : State) : (s.latchSend d l).hCtl = s.hCtl := rfl
@[simp] theorem State.latchSend_plen (d : Byte) (l : List Byte) (s : State) : (s.latchSend d l).plen = s.plen := rfl
@[simp] theorem State.latchSend_rxBuf (d : Byte) (l : List Byte) (s : State) : (s.latchSend d l).rxBuf = s.rxBuf := rfl
@[simp] theorem State.latchSend_pktOut (d : Byte) (l : List Byte) (s : State) : (s.latchSend d l).pktOut = s.pktOut := rfl
@[simp] theorem State.latchSend_editOld (d : Byte) (l : List Byte) (s : State) : (s.latchSend d l).editOld = s.editOld := rfl
@[simp] theorem State.latchSend_busRx (d : Byte) (l : List Byte) (s : State) : (s.latchSend d l).busRx = s.busRx := rfl
@[simp] theorem State.latchSend_env (d : Byte) (l : List Byte) (s : State) : (s.latchSend d l).env = s.env := rfl
@[simp] theorem State.latchSend_trace (d : Byte) (l : List Byte) (s : State) : (s.latchSend d l).trace = s.trace := rfl

/-! ### `State.startRxs` -/

@[simp] theorem State.startRxs_params (s : State) : (s.startRxs).params = s.params := rfl
@[simp] theorem State.startRxs_seq (s : State) : (s.startRxs).seq = s.seq := rfl
@[simp] theorem State.startRxs_setupDone (s : State) : (s.startRxs).setupDone = s.setupDone := rfl
@[simp] theorem State.startRxs_txPower (s : State) : (s.startRxs).txPower = s.txPower := rfl
@[simp] theorem State.startRxs_modeShadow (s : State) : (s.startRxs).modeShadow = s.modeShadow := rfl
@[simp] theorem State.startRxs_evtPending (s : State) : (s.startRxs).evtPending = false := rfl
@[simp] theorem State.startRxs_arbEnabled (s : State) : (s.startRxs).arbEnabled = true := rfl
@[simp] theorem State.startRxs_errSlot (s : State) : (s.startRxs).errSlot = none := rfl
@[simp] theorem State.startRxs_attempt (s : State) : (s.startRxs).attempt = s.attempt := rfl
@[simp] theorem State.startRxs_polls (s : State) : (s.startRxs).polls = s.polls := rfl
@[simp] theorem State.startRxs_txDst (s : State) : (s.startRxs).txDst = s.txDst := rfl
@[simp] theorem State.startRxs_txPayload (s : State) : (s.startRxs).txPayload = s.txPayload := rfl
@[simp] theorem State.startRxs_cfg (s : State) : (s.startRxs).cfg = s.cfg := rfl
@[simp] theorem State.startRxs_cfgI (s : State) : (s.startRxs).cfgI = s.cfgI := rfl
@[simp] theorem State.startRxs_flags (s : State) : (s.startRxs).flags = s.flags := rfl
@[simp] theorem State.startRxs_rssiRaw (s : State) : (s.startRxs).rssiRaw = s.rssiRaw := rfl
@[simp] theorem State.startRxs_rssi (s : State) : (s.startRxs).rssi = s.rssi := rfl
@[simp] theorem State.startRxs_hTotal (s : State) : (s.startRxs).hTotal = s.hTotal := rfl
@[simp] theorem State.startRxs_hDst (s : State) : (s.startRxs).hDst = s.hDst := rfl
@[simp] theorem State.startRxs_hSrc (s : State) : (s.startRxs).hSrc = s.hSrc := rfl
@[simp] theorem State.startRxs_hCtl (s : State) : (s.startRxs).hCtl = s.hCtl := rfl
@[simp] theorem State.startRxs_plen (s : State) : (s.startRxs).plen = s.plen := rfl
@[simp] theorem State.startRxs_rxBuf (s : State) : (s.startRxs).rxBuf = s.rxBuf := rfl
@[simp] theorem State.startRxs_pktOut (s : State) : (s.startRxs).pktOut = s.pktOut := rfl
@[simp] theorem State.startRxs_editOld (s : State) : (s.startRxs).editOld = s.editOld := rfl
@[simp] theorem State.startRxs_busRx (s : State) : (s.startRxs).busRx = s.busRx := rfl
@[simp] theorem State.startRxs_env (s : State) : (s.startRxs).env = s.env := rfl
@[simp] theorem State.startRxs_trace (s : State) : (s.startRxs).trace = s.trace := rfl

/-! ### `State.latchFlags` -/

@[simp] theorem State.latchFlags_params (v : Byte) (s : State) : (s.latchFlags v).params = s.params := rfl
@[simp] theorem State.latchFlags_seq (v : Byte) (s : State) : (s.latchFlags v).seq = s.seq := rfl
@[simp] theorem State.latchFlags_setupDone (v : Byte) (s : State) : (s.latchFlags v).setupDone = s.setupDone := rfl
@[simp] theorem State.latchFlags_txPower (v : Byte) (s : State) : (s.latchFlags v).txPower = s.txPower := rfl
@[simp] theorem State.latchFlags_modeShadow (v : Byte) (s : State) : (s.latchFlags v).modeShadow = s.modeShadow := rfl
@[simp] theorem State.latchFlags_evtPending (v : Byte) (s : State) : (s.latchFlags v).evtPending = s.evtPending := rfl
@[simp] theorem State.latchFlags_arbEnabled (v : Byte) (s : State) : (s.latchFlags v).arbEnabled = s.arbEnabled := rfl
@[simp] theorem State.latchFlags_errSlot (v : Byte) (s : State) : (s.latchFlags v).errSlot = s.errSlot := rfl
@[simp] theorem State.latchFlags_attempt (v : Byte) (s : State) : (s.latchFlags v).attempt = s.attempt := rfl
@[simp] theorem State.latchFlags_polls (v : Byte) (s : State) : (s.latchFlags v).polls = s.polls := rfl
@[simp] theorem State.latchFlags_txDst (v : Byte) (s : State) : (s.latchFlags v).txDst = s.txDst := rfl
@[simp] theorem State.latchFlags_txPayload (v : Byte) (s : State) : (s.latchFlags v).txPayload = s.txPayload := rfl
@[simp] theorem State.latchFlags_cfg (v : Byte) (s : State) : (s.latchFlags v).cfg = s.cfg := rfl
@[simp] theorem State.latchFlags_cfgI (v : Byte) (s : State) : (s.latchFlags v).cfgI = s.cfgI := rfl
@[simp] theorem State.latchFlags_flags (v : Byte) (s : State) : (s.latchFlags v).flags = v := rfl
@[simp] theorem State.latchFlags_rssiRaw (v : Byte) (s : State) : (s.latchFlags v).rssiRaw = s.rssiRaw := rfl
@[simp] theorem State.latchFlags_rssi (v : Byte) (s : State) : (s.latchFlags v).rssi = s.rssi := rfl
@[simp] theorem State.latchFlags_hTotal (v : Byte) (s : State) : (s.latchFlags v).hTotal = s.hTotal := rfl
@[simp] theorem State.latchFlags_hDst (v : Byte) (s : State) : (s.latchFlags v).hDst = s.hDst := rfl
@[simp] theorem State.latchFlags_hSrc (v : Byte) (s : State) : (s.latchFlags v).hSrc = s.hSrc := rfl
@[simp] theorem State.latchFlags_hCtl (v : Byte) (s : State) : (s.latchFlags v).hCtl = s.hCtl := rfl
@[simp] theorem State.latchFlags_plen (v : Byte) (s : State) : (s.latchFlags v).plen = s.plen := rfl
@[simp] theorem State.latchFlags_rxBuf (v : Byte) (s : State) : (s.latchFlags v).rxBuf = s.rxBuf := rfl
@[simp] theorem State.latchFlags_pktOut (v : Byte) (s : State) : (s.latchFlags v).pktOut = s.pktOut := rfl
@[simp] theorem State.latchFlags_editOld (v : Byte) (s : State) : (s.latchFlags v).editOld = s.editOld := rfl
@[simp] theorem State.latchFlags_busRx (v : Byte) (s : State) : (s.latchFlags v).busRx = s.busRx := rfl
@[simp] theorem State.latchFlags_env (v : Byte) (s : State) : (s.latchFlags v).env = s.env := rfl
@[simp] theorem State.latchFlags_trace (v : Byte) (s : State) : (s.latchFlags v).trace = s.trace := rfl

/-! ### `State.takeEvent` -/

@[simp] theorem State.takeEvent_params (s : State) : (s.takeEvent).params = s.params := rfl
@[simp] theorem State.takeEvent_seq (s : State) : (s.takeEvent).seq = s.seq := rfl
@[simp] theorem State.takeEvent_setupDone (s : State) : (s.takeEvent).setupDone = s.setupDone := rfl
@[simp] theorem State.takeEvent_txPower (s : State) : (s.takeEvent).txPower = s.txPower := rfl
@[simp] theorem State.takeEvent_modeShadow (s : State) : (s.takeEvent).modeShadow = s.modeShadow := rfl
@[simp] theorem State.takeEvent_evtPending (s : State) : (s.takeEvent).evtPending = false := rfl
@[simp] theorem State.takeEvent_arbEnabled (s : State) : (s.takeEvent).arbEnabled = s.arbEnabled := rfl
@[simp] theorem State.takeEvent_errSlot (s : State) : (s.takeEvent).errSlot = s.errSlot := rfl
@[simp] theorem State.takeEvent_attempt (s : State) : (s.takeEvent).attempt = s.attempt := rfl
@[simp] theorem State.takeEvent_polls (s : State) : (s.takeEvent).polls = s.polls := rfl
@[simp] theorem State.takeEvent_txDst (s : State) : (s.takeEvent).txDst = s.txDst := rfl
@[simp] theorem State.takeEvent_txPayload (s : State) : (s.takeEvent).txPayload = s.txPayload := rfl
@[simp] theorem State.takeEvent_cfg (s : State) : (s.takeEvent).cfg = s.cfg := rfl
@[simp] theorem State.takeEvent_cfgI (s : State) : (s.takeEvent).cfgI = s.cfgI := rfl
@[simp] theorem State.takeEvent_flags (s : State) : (s.takeEvent).flags = s.flags := rfl
@[simp] theorem State.takeEvent_rssiRaw (s : State) : (s.takeEvent).rssiRaw = s.rssiRaw := rfl
@[simp] theorem State.takeEvent_rssi (s : State) : (s.takeEvent).rssi = s.rssi := rfl
@[simp] theorem State.takeEvent_hTotal (s : State) : (s.takeEvent).hTotal = s.hTotal := rfl
@[simp] theorem State.takeEvent_hDst (s : State) : (s.takeEvent).hDst = s.hDst := rfl
@[simp] theorem State.takeEvent_hSrc (s : State) : (s.takeEvent).hSrc = s.hSrc := rfl
@[simp] theorem State.takeEvent_hCtl (s : State) : (s.takeEvent).hCtl = s.hCtl := rfl
@[simp] theorem State.takeEvent_plen (s : State) : (s.takeEvent).plen = s.plen := rfl
@[simp] theorem State.takeEvent_rxBuf (s : State) : (s.takeEvent).rxBuf = s.rxBuf := rfl
@[simp] theorem State.takeEvent_pktOut (s : State) : (s.takeEvent).pktOut = s.pktOut := rfl
@[simp] theorem State.takeEvent_editOld (s : State) : (s.takeEvent).editOld = s.editOld := rfl
@[simp] theorem State.takeEvent_busRx (s : State) : (s.takeEvent).busRx = s.busRx := rfl
@[simp] theorem State.takeEvent_env (s : State) : (s.takeEvent).env = s.env := rfl
@[simp] theorem State.takeEvent_trace (s : State) : (s.takeEvent).trace = s.trace := rfl

/-! ### `State.latchPlen` -/

@[simp] theorem State.latchPlen_params (s : State) : (s.latchPlen).params = s.params := rfl
@[simp] theorem State.latchPlen_seq (s : State) : (s.latchPlen).seq = s.seq := rfl
@[simp] theorem State.latchPlen_setupDone (s : State) : (s.latchPlen).setupDone = s.setupDone := rfl
@[simp] theorem State.latchPlen_txPower (s : State) : (s.latchPlen).txPower = s.txPower := rfl
@[simp] theorem State.latchPlen_modeShadow (s : State) : (s.latchPlen).modeShadow = s.modeShadow := rfl
@[simp] theorem State.latchPlen_evtPending (s : State) : (s.latchPlen).evtPending = s.evtPending := rfl
@[simp] theorem State.latchPlen_arbEnabled (s : State) : (s.latchPlen).arbEnabled = s.arbEnabled := rfl
@[simp] theorem State.latchPlen_errSlot (s : State) : (s.latchPlen).errSlot = s.errSlot := rfl
@[simp] theorem State.latchPlen_attempt (s : State) : (s.latchPlen).attempt = s.attempt := rfl
@[simp] theorem State.latchPlen_polls (s : State) : (s.latchPlen).polls = s.polls := rfl
@[simp] theorem State.latchPlen_txDst (s : State) : (s.latchPlen).txDst = s.txDst := rfl
@[simp] theorem State.latchPlen_txPayload (s : State) : (s.latchPlen).txPayload = s.txPayload := rfl
@[simp] theorem State.latchPlen_cfg (s : State) : (s.latchPlen).cfg = s.cfg := rfl
@[simp] theorem State.latchPlen_cfgI (s : State) : (s.latchPlen).cfgI = s.cfgI := rfl
@[simp] theorem State.latchPlen_flags (s : State) : (s.latchPlen).flags = s.flags := rfl
@[simp] theorem State.latchPlen_rssiRaw (s : State) : (s.latchPlen).rssiRaw = s.rssiRaw := rfl
@[simp] theorem State.latchPlen_rssi (s : State) : (s.latchPlen).rssi = s.rssi := rfl
@[simp] theorem State.latchPlen_hTotal (s : State) : (s.latchPlen).hTotal = s.hTotal := rfl
@[simp] theorem State.latchPlen_hDst (s : State) : (s.latchPlen).hDst = s.hDst := rfl
@[simp] theorem State.latchPlen_hSrc (s : State) : (s.latchPlen).hSrc = s.hSrc := rfl
@[simp] theorem State.latchPlen_hCtl (s : State) : (s.latchPlen).hCtl = s.hCtl := rfl
@[simp] theorem State.latchPlen_plen (s : State) : (s.latchPlen).plen = payloadLength s.hTotal := rfl
@[simp] theorem State.latchPlen_rxBuf (s : State) : (s.latchPlen).rxBuf = s.rxBuf := rfl
@[simp] theorem State.latchPlen_pktOut (s : State) : (s.latchPlen).pktOut = s.pktOut := rfl
@[simp] theorem State.latchPlen_editOld (s : State) : (s.latchPlen).editOld = s.editOld := rfl
@[simp] theorem State.latchPlen_busRx (s : State) : (s.latchPlen).busRx = s.busRx := rfl
@[simp] theorem State.latchPlen_env (s : State) : (s.latchPlen).env = s.env := rfl
@[simp] theorem State.latchPlen_trace (s : State) : (s.latchPlen).trace = s.trace := rfl

/-! ### `State.latchPayload` -/

@[simp] theorem State.latchPayload_params (d : List Byte) (s : State) : (s.latchPayload d).params = s.params := rfl
@[simp] theorem State.latchPayload_seq (d : List Byte) (s : State) : (s.latchPayload d).seq = s.seq := rfl
@[simp] theorem State.latchPayload_setupDone (d : List Byte) (s : State) : (s.latchPayload d).setupDone = s.setupDone := rfl
@[simp] theorem State.latchPayload_txPower (d : List Byte) (s : State) : (s.latchPayload d).txPower = s.txPower := rfl
@[simp] theorem State.latchPayload_modeShadow (d : List Byte) (s : State) : (s.latchPayload d).modeShadow = s.modeShadow := rfl
@[simp] theorem State.latchPayload_evtPending (d : List Byte) (s : State) : (s.latchPayload d).evtPending = s.evtPending := rfl
@[simp] theorem State.latchPayload_arbEnabled (d : List Byte) (s : State) : (s.latchPayload d).arbEnabled = s.arbEnabled := rfl
@[simp] theorem State.latchPayload_errSlot (d : List Byte) (s : State) : (s.latchPayload d).errSlot = s.errSlot := rfl
@[simp] theorem State.latchPayload_attempt (d : List Byte) (s : State) : (s.latchPayload d).attempt = s.attempt := rfl
@[simp] theorem State.latchPayload_polls (d : List Byte) (s : State) : (s.latchPayload d).polls = s.polls := rfl
@[simp] theorem State.latchPayload_txDst (d : List Byte) (s : State) : (s.latchPayload d).txDst = s.txDst := rfl
@[simp] theorem State.latchPayload_txPayload (d : List Byte) (s : State) : (s.latchPayload d).txPayload = s.txPayload := rfl
@[simp] theorem State.latchPayload_cfg (d : List Byte) (s : State) : (s.latchPayload d).cfg = s.cfg := rfl
@[simp] theorem State.latchPayload_cfgI (d : List Byte) (s : State) : (s.latchPayload d).cfgI = s.cfgI := rfl
@[simp] theorem State.latchPayload_flags (d : List Byte) (s : State) : (s.latchPayload d).flags = s.flags := rfl
@[simp] theorem State.latchPayload_rssiRaw (d : List Byte) (s : State) : (s.latchPayload d).rssiRaw = s.rssiRaw := rfl
@[simp] theorem State.latchPayload_rssi (d : List Byte) (s : State) : (s.latchPayload d).rssi = s.rssi := rfl
@[simp] theorem State.latchPayload_hTotal (d : List Byte) (s : State) : (s.latchPayload d).hTotal = s.hTotal := rfl
@[simp] theorem State.latchPayload_hDst (d : List Byte) (s : State) : (s.latchPayload d).hDst = s.hDst := rfl
@[simp] theorem State.latchPayload_hSrc (d : List Byte) (s : State) : (s.latchPayload d).hSrc = s.hSrc := rfl
@[simp] theorem State.latchPayload_hCtl (d : List Byte) (s : State) : (s.latchPayload d).hCtl = s.hCtl := rfl
@[simp] theorem State.latchPayload_plen (d : List Byte) (s : State) : (s.latchPayload d).plen = s.plen := rfl
@[simp] theorem State.latchPayload_rxBuf (d : List Byte) (s : State) : (s.latchPayload d).rxBuf = d := rfl
@[simp] theorem State.latchPayload_pktOut (d : List Byte) (s : State) : (s.latchPayload d).pktOut = s.pktOut := rfl
@[simp] theorem State.latchPayload_editOld (d : List Byte) (s : State) : (s.latchPayload d).editOld = s.editOld := rfl
@[simp] theorem State.latchPayload_busRx (d : List Byte) (s : State) : (s.latchPayload d).busRx = s.busRx := rfl
@[simp] theorem State.latchPayload_env (d : List Byte) (s : State) : (s.latchPayload d).env = s.env := rfl
@[simp] theorem State.latchPayload_trace (d : List Byte) (s : State) : (s.latchPayload d).trace = s.trace := rfl

/-! ### `State.latchPacket` -/

@[simp] theorem State.latchPacket_params (p : Packet) (s : State) : (s.latchPacket p).params = s.params := rfl
@[simp] theorem State.latchPacket_seq (p : Packet) (s : State) : (s.latchPacket p).seq = s.seq := rfl
@[simp] theorem State.latchPacket_setupDone (p : Packet) (s : State) : (s.latchPacket p).setupDone = s.setupDone := rfl
@[simp] theorem State.latchPacket_txPower (p : Packet) (s : State) : (s.latchPacket p).txPower = s.txPower := rfl
@[simp] theorem State.latchPacket_modeShadow (p : Packet) (s : State) : (s.latchPacket p).modeShadow = s.modeShadow := rfl
@[simp] theorem State.latchPacket_evtPending (p : Packet) (s : State) : (s.latchPacket p).evtPending = s.evtPending := rfl
@[simp] theorem State.latchPacket_arbEnabled (p : Packet) (s : State) : (s.latchPacket p).arbEnabled = s.arbEnabled := rfl
@[simp] theorem State.latchPacket_errSlot (p : Packet) (s : State) : (s.latchPacket p).errSlot = s.errSlot := rfl
@[simp] theorem State.latchPacket_attempt (p : Packet) (s : State) : (s.latchPacket p).attempt = s.attempt := rfl
@[simp] theorem State.latchPacket_polls (p : Packet) (s : State) : (s.latchPacket p).polls = s.polls := rfl
@[simp] theorem State.latchPacket_txDst (p : Packet) (s : State) : (s.latchPacket p).txDst = s.txDst := rfl
@[simp] theorem State.latchPacket_txPayload (p : Packet) (s : State) : (s.latchPacket p).txPayload = s.txPayload := rfl
@[simp] theorem State.latchPacket_cfg (p : Packet) (s : State) : (s.latchPacket p).cfg = s.cfg := rfl
@[simp] theorem State.latchPacket_cfgI (p : Packet) (s : State) : (s.latchPacket p).cfgI = s.cfgI := rfl
@[simp] theorem State.latchPacket_flags (p : Packet) (s : State) : (s.latchPacket p).flags = s.flags := rfl
@[simp] theorem State.latchPacket_rssiRaw (p : Packet) (s : State) : (s.latchPacket p).rssiRaw = s.rssiRaw := rfl
@[simp] theorem State.latchPacket_rssi (p : Packet) (s : State) : (s.latchPacket p).rssi = s.rssi := rfl
@[simp] theorem State.latchPacket_hTotal (p : Packet) (s : State) : (s.latchPacket p).hTotal = s.hTotal := rfl
@[simp] theorem State.latchPacket_hDst (p : Packet) (s : State) : (s.latchPacket p).hDst = s.hDst := rfl
@[simp] theorem State.latchPacket_hSrc (p : Packet) (s : State) : (s.latchPacket p).hSrc = s.hSrc := rfl
@[simp] theorem State.latchPacket_hCtl (p : Packet) (s : State) : (s.latchPacket p).hCtl = s.hCtl := rfl
@[simp] theorem State.latchPacket_plen (p : Packet) (s : State) : (s.latchPacket p).plen = s.plen := rfl
@[simp] theorem State.latchPacket_rxBuf (p : Packet) (s : State) : (s.latchPacket p).rxBuf = s.rxBuf := rfl
@[simp] theorem State.latchPacket_pktOut (p : Packet) (s : State) : (s.latchPacket p).pktOut = p := rfl
@[simp] theorem State.latchPacket_editOld (p : Packet) (s : State) : (s.latchPacket p).editOld = s.editOld := rfl
@[simp] theorem State.latchPacket_busRx (p : Packet) (s : State) : (s.latchPacket p).busRx = s.busRx := rfl
@[simp] theorem State.latchPacket_env (p : Packet) (s : State) : (s.latchPacket p).env = s.env := rfl
@[simp] theorem State.latchPacket_trace (p : Packet) (s : State) : (s.latchPacket p).trace = s.trace := rfl

/-! ### `State.startSync` -/

@[simp] theorem State.startSync_params (s : State) : (s.startSync).params = s.params := rfl
@[simp] theorem State.startSync_seq (s : State) : (s.startSync).seq = s.seq := rfl
@[simp] theorem State.startSync_setupDone (s : State) : (s.startSync).setupDone = s.setupDone := rfl
@[simp] theorem State.startSync_txPower (s : State) : (s.startSync).txPower = s.txPower := rfl
@[simp] theorem State.startSync_modeShadow (s : State) : (s.startSync).modeShadow = s.modeShadow := rfl
@[simp] theorem State.startSync_evtPending (s : State) : (s.startSync).evtPending = s.evtPending := rfl
@[simp] theorem State.startSync_arbEnabled (s : State) : (s.startSync).arbEnabled = s.arbEnabled := rfl
@[simp] theorem State.startSync_errSlot (s : State) : (s.startSync).errSlot = s.errSlot := rfl
@[simp] theorem State.startSync_attempt (s : State) : (s.startSync).attempt = 1 := rfl
@[simp] theorem State.startSync_polls (s : State) : (s.startSync).polls = s.polls := rfl
@[simp] theorem State.startSync_txDst (s : State) : (s.startSync).txDst = s.txDst := rfl
@[simp] theorem State.startSync_txPayload (s : State) : (s.startSync).txPayload = s.txPayload := rfl
@[simp] theorem State.startSync_cfg (s : State) : (s.startSync).cfg = s.cfg := rfl
@[simp] theorem State.startSync_cfgI (s : State) : (s.startSync).cfgI = s.cfgI := rfl
@[simp] theorem State.startSync_flags (s : State) : (s.startSync).flags = s.flags := rfl
@[simp] theorem State.startSync_rssiRaw (s : State) : (s.startSync).rssiRaw = s.rssiRaw := rfl
@[simp] theorem State.startSync_rssi (s : State) : (s.startSync).rssi = s.rssi := rfl
@[simp] theorem State.startSync_hTotal (s : State) : (s.startSync).hTotal = s.hTotal := rfl
@[simp] theorem State.startSync_hDst (s : State) : (s.startSync).hDst = s.hDst := rfl
@[simp] theorem State.startSync_hSrc (s : State) : (s.startSync).hSrc = s.hSrc := rfl
@[simp] theorem State.startSync_hCtl (s : State) : (s.startSync).hCtl = s.hCtl := rfl
@[simp] theorem State.startSync_plen (s : State) : (s.startSync).plen = s.plen := rfl
@[simp] theorem State.startSync_rxBuf (s : State) : (s.startSync).rxBuf = s.rxBuf := rfl
@[simp] theorem State.startSync_pktOut (s : State) : (s.startSync).pktOut = s.pktOut := rfl
@[simp] theorem State.startSync_editOld (s : State) : (s.startSync).editOld = s.editOld := rfl
@[simp] theorem State.startSync_busRx (s : State) : (s.startSync).busRx = s.busRx := rfl
@[simp] theorem State.startSync_env (s : State) : (s.startSync).env = s.env := rfl
@[simp] theorem State.startSync_trace (s : State) : (s.startSync).trace = s.trace := rfl

/-! ### `State.startPoll` -/

@[simp] theorem State.startPoll_params (s : State) : (s.startPoll).params = s.params := rfl
@[simp] theorem State.startPoll_seq (s : State) : (s.startPoll).seq = s.seq := rfl
@[simp] theorem State.startPoll_setupDone (s : State) : (s.startPoll).setupDone = s.setupDone := rfl
@[simp] theorem State.startPoll_txPower (s : State) : (s.startPoll).txPower = s.txPower := rfl
@[simp] theorem State.startPoll_modeShadow (s : State) : (s.startPoll).modeShadow = s.modeShadow := rfl
@[simp] theorem State.startPoll_evtPending (s : State) : (s.startPoll).evtPending = s.evtPending := rfl
@[simp] theorem State.startPoll_arbEnabled (s : State) : (s.startPoll).arbEnabled = s.arbEnabled := rfl
@[simp] theorem State.startPoll_errSlot (s : State) : (s.startPoll).errSlot = s.errSlot := rfl
@[simp] theorem State.startPoll_attempt (s : State) : (s.startPoll).attempt = s.attempt := rfl
@[simp] theorem State.startPoll_polls (s : State) : (s.startPoll).polls = 0 := rfl
@[simp] theorem State.startPoll_txDst (s : State) : (s.startPoll).txDst = s.txDst := rfl
@[simp] theorem State.startPoll_txPayload (s : State) : (s.startPoll).txPayload = s.txPayload := rfl
@[simp] theorem State.startPoll_cfg (s : State) : (s.startPoll).cfg = s.cfg := rfl
@[simp] theorem State.startPoll_cfgI (s : State) : (s.startPoll).cfgI = s.cfgI := rfl
@[simp] theorem State.startPoll_flags (s : State) : (s.startPoll).flags = s.flags := rfl
@[simp] theorem State.startPoll_rssiRaw (s : State) : (s.startPoll).rssiRaw = s.rssiRaw := rfl
@[simp] theorem State.startPoll_rssi (s : State) : (s.startPoll).rssi = s.rssi := rfl
@[simp] theorem State.startPoll_hTotal (s : State) : (s.startPoll).hTotal = s.hTotal := rfl
@[simp] theorem State.startPoll_hDst (s : State) : (s.startPoll).hDst = s.hDst := rfl
@[simp] theorem State.startPoll_hSrc (s : State) : (s.startPoll).hSrc = s.hSrc := rfl
@[simp] theorem State.startPoll_hCtl (s : State) : (s.startPoll).hCtl = s.hCtl := rfl
@[simp] theorem State.startPoll_plen (s : State) : (s.startPoll).plen = s.plen := rfl
@[simp] theorem State.startPoll_rxBuf (s : State) : (s.startPoll).rxBuf = s.rxBuf := rfl
@[simp] theorem State.startPoll_pktOut (s : State) : (s.startPoll).pktOut = s.pktOut := rfl
@[simp] theorem State.startPoll_editOld (s : State) : (s.startPoll).editOld = s.editOld := rfl
@[simp] theorem State.startPoll_busRx (s : State) : (s.startPoll).busRx = s.busRx := rfl
@[simp] theorem State.startPoll_env (s : State) : (s.startPoll).env = s.env := rfl
@[simp] theorem State.startPoll_trace (s : State) : (s.startPoll).trace = s.trace := rfl

/-! ### `State.latchRssi` -/

@[simp] theorem State.latchRssi_params (r : Byte) (s : State) : (s.latchRssi r).params = s.params := rfl
@[simp] theorem State.latchRssi_seq (r : Byte) (s : State) : (s.latchRssi r).seq = s.seq := rfl
@[simp] theorem State.latchRssi_setupDone (r : Byte) (s : State) : (s.latchRssi r).setupDone = s.setupDone := rfl
@[simp] theorem State.latchRssi_txPower (r : Byte) (s : State) : (s.latchRssi r).txPower = s.txPower := rfl
@[simp] theorem State.latchRssi_modeShadow (r : Byte) (s : State) : (s.latchRssi r).modeShadow = s.modeShadow := rfl
@[simp] theorem State.latchRssi_evtPending (r : Byte) (s : State) : (s.latchRssi r).evtPending = s.evtPending := rfl
@[simp] theorem State.latchRssi_arbEnabled (r : Byte) (s : State) : (s.latchRssi r).arbEnabled = s.arbEnabled := rfl
@[simp] theorem State.latchRssi_errSlot (r : Byte) (s : State) : (s.latchRssi r).errSlot = s.errSlot := rfl
@[simp] theorem State.latchRssi_attempt (r : Byte) (s : State) : (s.latchRssi r).attempt = s.attempt := rfl
@[simp] theorem State.latchRssi_polls (r : Byte) (s : State) : (s.latchRssi r).polls = s.polls := rfl
@[simp] theorem State.latchRssi_txDst (r : Byte) (s : State) : (s.latchRssi r).txDst = s.txDst := rfl
@[simp] theorem State.latchRssi_txPayload (r : Byte) (s : State) : (s.latchRssi r).txPayload = s.txPayload := rfl
@[simp] theorem State.latchRssi_cfg (r : Byte) (s : State) : (s.latchRssi r).cfg = s.cfg := rfl
@[simp] theorem State.latchRssi_cfgI (r : Byte) (s : State) : (s.latchRssi r).cfgI = s.cfgI := rfl
@[simp] theorem State.latchRssi_flags (r : Byte) (s : State) : (s.latchRssi r).flags = s.flags := rfl
@[simp] theorem State.latchRssi_rssiRaw (r : Byte) (s : State) : (s.latchRssi r).rssiRaw = r := rfl
@[simp] theorem State.latchRssi_rssi (r : Byte) (s : State) : (s.latchRssi r).rssi = rssiOf r := rfl
@[simp] theorem State.latchRssi_hTotal (r : Byte) (s : State) : (s.latchRssi r).hTotal = s.hTotal := rfl
@[simp] theorem State.latchRssi_hDst (r : Byte) (s : State) : (s.latchRssi r).hDst = s.hDst := rfl
@[simp] theorem State.latchRssi_hSrc (r : Byte) (s : State) : (s.latchRssi r).hSrc = s.hSrc := rfl
@[simp] theorem State.latchRssi_hCtl (r : Byte) (s : State) : (s.latchRssi r).hCtl = s.hCtl := rfl
@[simp] theorem State.latchRssi_plen (r : Byte) (s : State) : (s.latchRssi r).plen = s.plen := rfl
@[simp] theorem State.latchRssi_rxBuf (r : Byte) (s : State) : (s.latchRssi r).rxBuf = s.rxBuf := rfl
@[simp] theorem State.latchRssi_pktOut (r : Byte) (s : State) : (s.latchRssi r).pktOut = s.pktOut := rfl
@[simp] theorem State.latchRssi_editOld (r : Byte) (s : State) : (s.latchRssi r).editOld = s.editOld := rfl
@[simp] theorem State.latchRssi_busRx (r : Byte) (s : State) : (s.latchRssi r).busRx = s.busRx := rfl
@[simp] theorem State.latchRssi_env (r : Byte) (s : State) : (s.latchRssi r).env = s.env := rfl
@[simp] theorem State.latchRssi_trace (r : Byte) (s : State) : (s.latchRssi r).trace = s.trace := rfl

/-! ### `State.latchHeader` -/

@[simp] theorem State.latchHeader_params (h : List Byte) (s : State) : (s.latchHeader h).params = s.params := rfl
@[simp] theorem State.latchHeader_seq (h : List Byte) (s : State) : (s.latchHeader h).seq = s.seq := rfl
@[simp] theorem State.latchHeader_setupDone (h : List Byte) (s : State) : (s.latchHeader h).setupDone = s.setupDone := rfl
@[simp] theorem State.latchHeader_txPower (h : List Byte) (s : State) : (s.latchHeader h).txPower = s.txPower := rfl
@[simp] theorem State.latchHeader_modeShadow (h : List Byte) (s : State) : (s.latchHeader h).modeShadow = s.modeShadow := rfl
@[simp] theorem State.latchHeader_evtPending (h : List Byte) (s : State) : (s.latchHeader h).evtPending = s.evtPending := rfl
@[simp] theorem State.latchHeader_arbEnabled (h : List Byte) (s : State) : (s.latchHeader h).arbEnabled = s.arbEnabled := rfl
@[simp] theorem State.latchHeader_errSlot (h : List Byte) (s : State) : (s.latchHeader h).errSlot = s.errSlot := rfl
@[simp] theorem State.latchHeader_attempt (h : List Byte) (s : State) : (s.latchHeader h).attempt = s.attempt := rfl
@[simp] theorem State.latchHeader_polls (h : List Byte) (s : State) : (s.latchHeader h).polls = s.polls := rfl
@[simp] theorem State.latchHeader_txDst (h : List Byte) (s : State) : (s.latchHeader h).txDst = s.txDst := rfl
@[simp] theorem State.latchHeader_txPayload (h : List Byte) (s : State) : (s.latchHeader h).txPayload = s.txPayload := rfl
@[simp] theorem State.latchHeader_cfg (h : List Byte) (s : State) : (s.latchHeader h).cfg = s.cfg := rfl
@[simp] theorem State.latchHeader_cfgI (h : List Byte) (s : State) : (s.latchHeader h).cfgI = s.cfgI := rfl
@[simp] theorem State.latchHeader_flags (h : List Byte) (s : State) : (s.latchHeader h).flags = s.flags := rfl
@[simp] theorem State.latchHeader_rssiRaw (h : List Byte) (s : State) : (s.latchHeader h).rssiRaw = s.rssiRaw := rfl
@[simp] theorem State.latchHeader_rssi (h : List Byte) (s : State) : (s.latchHeader h).rssi = s.rssi := rfl
@[simp] theorem State.latchHeader_hTotal (h : List Byte) (s : State) : (s.latchHeader h).hTotal = h.getD 0 0 := rfl
@[simp] theorem State.latchHeader_hDst (h : List Byte) (s : State) : (s.latchHeader h).hDst = h.getD 1 0 := rfl
@[simp] theorem State.latchHeader_hSrc (h : List Byte) (s : State) : (s.latchHeader h).hSrc = h.getD 2 0 := rfl
@[simp] theorem State.latchHeader_hCtl (h : List Byte) (s : State) : (s.latchHeader h).hCtl = h.getD 3 0 := rfl
@[simp] theorem State.latchHeader_plen (h : List Byte) (s : State) : (s.latchHeader h).plen = s.plen := rfl
@[simp] theorem State.latchHeader_rxBuf (h : List Byte) (s : State) : (s.latchHeader h).rxBuf = s.rxBuf := rfl
@[simp] theorem State.latchHeader_pktOut (h : List Byte) (s : State) : (s.latchHeader h).pktOut = s.pktOut := rfl
@[simp] theorem State.latchHeader_editOld (h : List Byte) (s : State) : (s.latchHeader h).editOld = s.editOld := rfl
@[simp] theorem State.latchHeader_busRx (h : List Byte) (s : State) : (s.latchHeader h).busRx = s.busRx := rfl
@[simp] theorem State.latchHeader_env (h : List Byte) (s : State) : (s.latchHeader h).env = s.env := rfl
@[simp] theorem State.latchHeader_trace (h : List Byte) (s : State) : (s.latchHeader h).trace = s.trace := rfl

/-! ### `State.gotoPower` -/

@[simp] theorem State.gotoPower_params (c : List (Byte × Byte)) (s : State) : (s.gotoPower c).params = s.params := rfl
@[simp] theorem State.gotoPower_seq (c : List (Byte × Byte)) (s : State) : (s.gotoPower c).seq = .running (.setup c (.s5 (recipeFirst s.params (clampPower s.params.initialPower)))) := rfl
@[simp] theorem State.gotoPower_setupDone (c : List (Byte × Byte)) (s : State) : (s.gotoPower c).setupDone = s.setupDone := rfl
@[simp] theorem State.gotoPower_txPower (c : List (Byte × Byte)) (s : State) : (s.gotoPower c).txPower = s.txPower := rfl
@[simp] theorem State.gotoPower_modeShadow (c : List (Byte × Byte)) (s : State) : (s.gotoPower c).modeShadow = s.modeShadow := rfl
@[simp] theorem State.gotoPower_evtPending (c : List (Byte × Byte)) (s : State) : (s.gotoPower c).evtPending = s.evtPending := rfl
@[simp] theorem State.gotoPower_arbEnabled (c : List (Byte × Byte)) (s : State) : (s.gotoPower c).arbEnabled = s.arbEnabled := rfl
@[simp] theorem State.gotoPower_errSlot (c : List (Byte × Byte)) (s : State) : (s.gotoPower c).errSlot = s.errSlot := rfl
@[simp] theorem State.gotoPower_attempt (c : List (Byte × Byte)) (s : State) : (s.gotoPower c).attempt = s.attempt := rfl
@[simp] theorem State.gotoPower_polls (c : List (Byte × Byte)) (s : State) : (s.gotoPower c).polls = s.polls := rfl
@[simp] theorem State.gotoPower_txDst (c : List (Byte × Byte)) (s : State) : (s.gotoPower c).txDst = s.txDst := rfl
@[simp] theorem State.gotoPower_txPayload (c : List (Byte × Byte)) (s : State) : (s.gotoPower c).txPayload = s.txPayload := rfl
@[simp] theorem State.gotoPower_cfg (c : List (Byte × Byte)) (s : State) : (s.gotoPower c).cfg = s.cfg := rfl
@[simp] theorem State.gotoPower_cfgI (c : List (Byte × Byte)) (s : State) : (s.gotoPower c).cfgI = s.cfgI := rfl
@[simp] theorem State.gotoPower_flags (c : List (Byte × Byte)) (s : State) : (s.gotoPower c).flags = s.flags := rfl
@[simp] theorem State.gotoPower_rssiRaw (c : List (Byte × Byte)) (s : State) : (s.gotoPower c).rssiRaw = s.rssiRaw := rfl
@[simp] theorem State.gotoPower_rssi (c : List (Byte × Byte)) (s : State) : (s.gotoPower c).rssi = s.rssi := rfl
@[simp] theorem State.gotoPower_hTotal (c : List (Byte × Byte)) (s : State) : (s.gotoPower c).hTotal = s.hTotal := rfl
@[simp] theorem State.gotoPower_hDst (c : List (Byte × Byte)) (s : State) : (s.gotoPower c).hDst = s.hDst := rfl
@[simp] theorem State.gotoPower_hSrc (c : List (Byte × Byte)) (s : State) : (s.gotoPower c).hSrc = s.hSrc := rfl
@[simp] theorem State.gotoPower_hCtl (c : List (Byte × Byte)) (s : State) : (s.gotoPower c).hCtl = s.hCtl := rfl
@[simp] theorem State.gotoPower_plen (c : List (Byte × Byte)) (s : State) : (s.gotoPower c).plen = s.plen := rfl
@[simp] theorem State.gotoPower_rxBuf (c : List (Byte × Byte)) (s : State) : (s.gotoPower c).rxBuf = s.rxBuf := rfl
@[simp] theorem State.gotoPower_pktOut (c : List (Byte × Byte)) (s : State) : (s.gotoPower c).pktOut = s.pktOut := rfl
@[simp] theorem State.gotoPower_editOld (c : List (Byte × Byte)) (s : State) : (s.gotoPower c).editOld = s.editOld := rfl
@[simp] theorem State.gotoPower_busRx (c : List (Byte × Byte)) (s : State) : (s.gotoPower c).busRx = s.busRx := rfl
@[simp] theorem State.gotoPower_env (c : List (Byte × Byte)) (s : State) : (s.gotoPower c).env = s.env := rfl
@[simp] theorem State.gotoPower_trace (c : List (Byte × Byte)) (s : State) : (s.gotoPower c).trace = s.trace := rfl

/-! ### `State.finishSetup` -/

@[simp] theorem State.finishSetup_params (s : State) : (s.finishSetup).params = s.params := rfl
@[simp] theorem State.finishSetup_seq (s : State) : (s.finishSetup).seq = .idle := rfl
@[simp] theorem State.finishSetup_setupDone (s : State) : (s.finishSetup).setupDone = true := rfl
@[simp] theorem State.finishSetup_txPower (s : State) : (s.finishSetup).txPower = s.txPower := rfl
@[simp] theorem State.finishSetup_modeShadow (s : State) : (s.finishSetup).modeShadow = s.modeShadow := rfl
@[simp] theorem State.finishSetup_evtPending (s : State) : (s.finishSetup).evtPending = s.evtPending := rfl
@[simp] theorem State.finishSetup_arbEnabled (s : State) : (s.finishSetup).arbEnabled = s.arbEnabled := rfl
@[simp] theorem State.finishSetup_errSlot (s : State) : (s.finishSetup).errSlot = s.errSlot := rfl
@[simp] theorem State.finishSetup_attempt (s : State) : (s.finishSetup).attempt = s.attempt := rfl
@[simp] theorem State.finishSetup_polls (s : State) : (s.finishSetup).polls = s.polls := rfl
@[simp] theorem State.finishSetup_txDst (s : State) : (s.finishSetup).txDst = s.txDst := rfl
@[simp] theorem State.finishSetup_txPayload (s : State) : (s.finishSetup).txPayload = s.txPayload := rfl
@[simp] theorem State.finishSetup_cfg (s : State) : (s.finishSetup).cfg = [] := rfl
@[simp] theorem State.finishSetup_cfgI (s : State) : (s.finishSetup).cfgI = 0 := rfl
@[simp] theorem State.finishSetup_flags (s : State) : (s.finishSetup).flags = s.flags := rfl
@[simp] theorem State.finishSetup_rssiRaw (s : State) : (s.finishSetup).rssiRaw = s.rssiRaw := rfl
@[simp] theorem State.finishSetup_rssi (s : State) : (s.finishSetup).rssi = s.rssi := rfl
@[simp] theorem State.finishSetup_hTotal (s : State) : (s.finishSetup).hTotal = s.hTotal := rfl
@[simp] theorem State.finishSetup_hDst (s : State) : (s.finishSetup).hDst = s.hDst := rfl
@[simp] theorem State.finishSetup_hSrc (s : State) : (s.finishSetup).hSrc = s.hSrc := rfl
@[simp] theorem State.finishSetup_hCtl (s : State) : (s.finishSetup).hCtl = s.hCtl := rfl
@[simp] theorem State.finishSetup_plen (s : State) : (s.finishSetup).plen = s.plen := rfl
@[simp] theorem State.finishSetup_rxBuf (s : State) : (s.finishSetup).rxBuf = s.rxBuf := rfl
@[simp] theorem State.finishSetup_pktOut (s : State) : (s.finishSetup).pktOut = s.pktOut := rfl
@[simp] theorem State.finishSetup_editOld (s : State) : (s.finishSetup).editOld = s.editOld := rfl
@[simp] theorem State.finishSetup_busRx (s : State) : (s.finishSetup).busRx = s.busRx := rfl
@[simp] theorem State.finishSetup_env (s : State) : (s.finishSetup).env = s.env := rfl
@[simp] theorem State.finishSetup_trace (s : State) : (s.finishSetup).trace = s.trace ++ [.response (okResponse [])] := rfl

/-! ### `State.blockReset` -/

@[simp] theorem State.blockReset_params (s : State) : (s.blockReset).params = s.params := rfl
@[simp] theorem State.blockReset_seq (s : State) : (s.blockReset).seq = State.reset.seq := rfl
@[simp] theorem State.blockReset_setupDone (s : State) : (s.blockReset).setupDone = State.reset.setupDone := rfl
@[simp] theorem State.blockReset_txPower (s : State) : (s.blockReset).txPower = State.reset.txPower := rfl
@[simp] theorem State.blockReset_modeShadow (s : State) : (s.blockReset).modeShadow = State.reset.modeShadow := rfl
@[simp] theorem State.blockReset_evtPending (s : State) : (s.blockReset).evtPending = State.reset.evtPending := rfl
@[simp] theorem State.blockReset_arbEnabled (s : State) : (s.blockReset).arbEnabled = State.reset.arbEnabled := rfl
@[simp] theorem State.blockReset_errSlot (s : State) : (s.blockReset).errSlot = State.reset.errSlot := rfl
@[simp] theorem State.blockReset_attempt (s : State) : (s.blockReset).attempt = State.reset.attempt := rfl
@[simp] theorem State.blockReset_polls (s : State) : (s.blockReset).polls = State.reset.polls := rfl
@[simp] theorem State.blockReset_txDst (s : State) : (s.blockReset).txDst = State.reset.txDst := rfl
@[simp] theorem State.blockReset_txPayload (s : State) : (s.blockReset).txPayload = State.reset.txPayload := rfl
@[simp] theorem State.blockReset_cfg (s : State) : (s.blockReset).cfg = State.reset.cfg := rfl
@[simp] theorem State.blockReset_cfgI (s : State) : (s.blockReset).cfgI = State.reset.cfgI := rfl
@[simp] theorem State.blockReset_flags (s : State) : (s.blockReset).flags = State.reset.flags := rfl
@[simp] theorem State.blockReset_rssiRaw (s : State) : (s.blockReset).rssiRaw = State.reset.rssiRaw := rfl
@[simp] theorem State.blockReset_rssi (s : State) : (s.blockReset).rssi = State.reset.rssi := rfl
@[simp] theorem State.blockReset_hTotal (s : State) : (s.blockReset).hTotal = State.reset.hTotal := rfl
@[simp] theorem State.blockReset_hDst (s : State) : (s.blockReset).hDst = State.reset.hDst := rfl
@[simp] theorem State.blockReset_hSrc (s : State) : (s.blockReset).hSrc = State.reset.hSrc := rfl
@[simp] theorem State.blockReset_hCtl (s : State) : (s.blockReset).hCtl = State.reset.hCtl := rfl
@[simp] theorem State.blockReset_plen (s : State) : (s.blockReset).plen = State.reset.plen := rfl
@[simp] theorem State.blockReset_rxBuf (s : State) : (s.blockReset).rxBuf = State.reset.rxBuf := rfl
@[simp] theorem State.blockReset_pktOut (s : State) : (s.blockReset).pktOut = State.reset.pktOut := rfl
@[simp] theorem State.blockReset_editOld (s : State) : (s.blockReset).editOld = State.reset.editOld := rfl
@[simp] theorem State.blockReset_busRx (s : State) : (s.blockReset).busRx = State.reset.busRx := rfl
@[simp] theorem State.blockReset_env (s : State) : (s.blockReset).env = s.env := rfl
@[simp] theorem State.blockReset_trace (s : State) : (s.blockReset).trace = s.trace ++ s.forgotten := rfl

end Sys2Proof.Machine
end

