-- ==== Sys2Proof/Laws/Ops.lean ====
section
/-! SUPPORT. One lemma per shared operation saying what it can do: the ends of an operation, refusals, transactions, the
lines and the turns that complete them, the sequencer's run, and one step. -/

namespace Sys2Proof.Machine

/-! ### Idle and busy -/

@[simp] theorem busy_idle {s : State} (h : s.seq = .idle) : s.busy = false := by simp [State.busy, h]

@[simp] theorem busy_running {s : State} {p : Pos} (h : s.seq = .running p) : s.busy = true := by simp [State.busy, h]

theorem busy_eq_false_iff (s : State) : s.busy = false ↔ s.seq = .idle := by
  unfold State.busy; split <;> simp_all

theorem busy_eq_true_iff (s : State) : s.busy = true ↔ ∃ p, s.seq = .running p := by
  unfold State.busy; split <;> simp_all

/-! ### Errors and refusals -/

theorem tryErr_strict {s : State} (skip : State → State) (fail : Err → State → State) (e : Err)
    (h : s.params.pokePolicy = .strict) : tryErr skip fail e s = fail e s := by simp [tryErr, h]

theorem tryErr_bestEffort {s : State} (skip : State → State) (fail : Err → State → State) (e : Err)
    (h : s.params.pokePolicy = .bestEffort) : tryErr skip fail e s = skip s := by simp [tryErr, h]

/-- A failing poke either propagates or is skipped (R122). -/
theorem tryErr_cases (skip : State → State) (fail : Err → State → State) (e : Err) (s : State) :
    tryErr skip fail e s = fail e s ∨ tryErr skip fail e s = skip s := by
  unfold tryErr; split <;> simp

/-- The refusals of an operation, in the order of R258. -/
theorem refusal_cases (gated tooLong : Bool) (s : State) :
    (s.refusal gated tooLong = some .busy ∧ s.busy = true) ∨
    (s.refusal gated tooLong = some .notReady ∧ s.busy = false ∧ gated = true ∧ s.setupDone = false) ∨
    (s.refusal gated tooLong = some .payloadTooLong ∧ s.busy = false ∧ (gated = true → s.setupDone = true) ∧ tooLong = true) ∨
    (s.refusal gated tooLong = none ∧ s.busy = false ∧ (gated = true → s.setupDone = true) ∧ tooLong = false) := by
  unfold State.refusal
  cases s.busy <;> cases gated <;> cases s.setupDone <;> cases tooLong <;> simp

/-- An accepted command runs on the turns that follow (R258 step 5, R45). -/
theorem issue_accepted {gated tooLong : Bool} {start : State → State} {s : State} (h : s.seq = .idle)
    (hg : gated = true → s.setupDone = true) (hl : tooLong = false) :
    issue gated tooLong start s = .next (drive s.env (start s)) := by
  cases gated <;> simp_all [issue, State.refusal]

/-- A command either is refused with a response only, or runs (R258). -/
theorem issue_cases (gated tooLong : Bool) (start : State → State) (s : State) :
    (∃ e, s.refusal gated tooLong = some e ∧ issue gated tooLong start s = .next (s.refuse e)) ∨
    (s.refusal gated tooLong = none ∧ issue gated tooLong start s = .next (drive s.env (start s))) := by
  unfold issue; split <;> simp_all

/-! ### Transactions -/

/-- A transaction answered by the next turn completes (R57). -/
theorem transferNow_answered {tx : List Byte} {s : State} {ans : Answer} {rest : List Turn}
    (he : s.env = .board ans :: rest) (hf : ans.fits tx = true) :
    transferNow tx s = .next ((s.withEnv rest).transact tx ans) := by
  simp [transferNow, he, hf]

/-- Everything a transaction at port `bus` can do. -/
theorem transferNow_cases (tx : List Byte) (s : State) :
    (∃ ans rest, s.env = .board ans :: rest ∧ ans.fits tx = true ∧
      transferNow tx s = .next ((s.withEnv rest).transact tx ans)) ∨
    (∃ ans rest, s.env = .board ans :: rest ∧ ans.fits tx = false ∧ transferNow tx s = .next (s.withEnv rest)) ∨
    ((∀ ans rest, s.env ≠ .board ans :: rest) ∧ transferNow tx s = .next s) := by
  rcases s with ⟨⟩
  rename_i env _
  unfold transferNow
  split
  · rename_i ans rest he
    dsimp only at he
    subst he
    cases hf : ans.fits tx
    · exact .inr (.inl ⟨ans, rest, by simp [hf]⟩)
    · exact .inl ⟨ans, rest, by simp [hf]⟩
  · rename_i hne
    exact .inr (.inr ⟨fun ans rest h => hne ans rest h, rfl⟩)

@[simp] theorem fits_err (tx : List Byte) : Answer.err.fits tx = true := rfl

@[simp] theorem fits_ok (tx rx : List Byte) : (Answer.ok rx).fits tx = (rx.length == tx.length) := rfl

@[simp] theorem bytes_ok (rx : List Byte) : (Answer.ok rx).bytes = some rx := rfl

@[simp] theorem bytes_err : Answer.err.bytes = none := rfl

/-! ### Lines -/

@[simp] theorem length_frameR1 (r : RegMap) (a : Byte) : (frameR1 r a).length = 2 := rfl
@[simp] theorem length_frameW1 (r : RegMap) (a v : Byte) : (frameW1 r a v).length = 2 := rfl
@[simp] theorem length_frameRN (r : RegMap) (a : Byte) (n : Nat) : (frameRN r a n).length = n + 1 := by simp [frameRN]
@[simp] theorem length_frameWN (r : RegMap) (a : Byte) (b : List Byte) : (frameWN r a b).length = b.length + 1 := rfl
@[simp] theorem head_frameR1 (r : RegMap) (a : Byte) : (frameR1 r a).head? = some (addrByte r a .read) := rfl
@[simp] theorem head_frameW1 (r : RegMap) (a v : Byte) : (frameW1 r a v).head? = some (addrByte r a .write) := rfl
@[simp] theorem head_frameRN (r : RegMap) (a : Byte) (n : Nat) : (frameRN r a n).head? = some (addrByte r a .read) := rfl
@[simp] theorem head_frameWN (r : RegMap) (a : Byte) (b : List Byte) : (frameWN r a b).head? = some (addrByte r a .write) := rfl

/-- A read line answered `Ok`: its value is `rx[1]` (R110, R53). -/
@[simp] theorem complete_readLine_ok (r : RegMap) (a e v : Byte) (ok fail) (s : State) :
    (readLine r a ok fail).complete (.board (.ok [e, v])) s = ok v (s.transact (frameR1 r a) (.ok [e, v])) := by
  simp [readLine, Line.complete]

/-- A read line answered `Err` (R120). -/
@[simp] theorem complete_readLine_err (r : RegMap) (a : Byte) (ok fail) (s : State) :
    (readLine r a ok fail).complete (.board .err) s =
      fail (.busError (addrByte r a .read)) (s.transact (frameR1 r a) .err) := by
  simp [readLine, Line.complete]

/-- A write line answered `Ok`: `rx` is discarded whole (R112). -/
@[simp] theorem complete_writeLine_ok (r : RegMap) (a v e w : Byte) (ok fail) (s : State) :
    (writeLine r a v ok fail).complete (.board (.ok [e, w])) s = ok (s.transact (frameW1 r a v) (.ok [e, w])) := by
  simp [writeLine, Line.complete]

/-- A write line answered `Err` (R120). -/
@[simp] theorem complete_writeLine_err (r : RegMap) (a v : Byte) (ok fail) (s : State) :
    (writeLine r a v ok fail).complete (.board .err) s =
      fail (.busError (addrByte r a .write)) (s.transact (frameW1 r a v) .err) := by
  simp [writeLine, Line.complete]

/-- A burst read answered `Ok`: its data are `rx` after the echo byte (R116). -/
theorem complete_burstReadLine_ok (r : RegMap) (a : Byte) (n : Nat) (e : Byte) (d : List Byte) (ok fail) (s : State)
    (h : d.length = n) :
    (burstReadLine r a n ok fail).complete (.board (.ok (e :: d))) s = ok d (s.transact (frameRN r a n) (.ok (e :: d))) := by
  simp [burstReadLine, Line.complete, h]

/-- A burst read answered `Err` (R120). -/
@[simp] theorem complete_burstReadLine_err (r : RegMap) (a : Byte) (n : Nat) (ok fail) (s : State) :
    (burstReadLine r a n ok fail).complete (.board .err) s =
      fail (.busError (addrByte r a .read)) (s.transact (frameRN r a n) .err) := by
  simp [burstReadLine, Line.complete]

/-- A burst write answered `Ok` (R118). -/
theorem complete_burstWriteLine_ok (r : RegMap) (a : Byte) (b rx : List Byte) (ok fail) (s : State)
    (h : rx.length = b.length + 1) :
    (burstWriteLine r a b ok fail).complete (.board (.ok rx)) s = ok (s.transact (frameWN r a b) (.ok rx)) := by
  simp [burstWriteLine, Line.complete, h]

/-- A burst write answered `Err` (R120). -/
@[simp] theorem complete_burstWriteLine_err (r : RegMap) (a : Byte) (b : List Byte) (ok fail) (s : State) :
    (burstWriteLine r a b ok fail).complete (.board .err) s =
      fail (.busError (addrByte r a .write)) (s.transact (frameWN r a b) .err) := by
  simp [burstWriteLine, Line.complete]

/-- A line of the recipe answered `Ok`. -/
@[simp] theorem complete_recipeLine_ok (p : Params) (d : Int) (goto ok fail) (l : RecipeLine) (x y : Byte) (s : State) :
    (recipeLine p d goto ok fail l).complete (.board (.ok [x, y])) s =
      l.advance goto ok (s.transact (frameW1 p.regMap (recipeWrite p d l).1 (recipeWrite p d l).2) (.ok [x, y])) := by
  simp [recipeLine, pokeWriteLine]

/-- A line of the recipe answered `Err` (R122). -/
@[simp] theorem complete_recipeLine_err (p : Params) (d : Int) (goto ok fail) (l : RecipeLine) (s : State) :
    (recipeLine p d goto ok fail l).complete (.board .err) s =
      tryErr (l.advance goto ok) fail (.busError (addrByte p.regMap (recipeWrite p d l).1 .write))
        (s.transact (frameW1 p.regMap (recipeWrite p d l).1 (recipeWrite p d l).2) .err) := by
  simp [recipeLine, pokeWriteLine]

/-- The store of `PWR`, made with the first line of its recipe (R131). -/
def storeFirst (d : Int) (l : RecipeLine) (s : State) : State :=
  if l.isFirst then s.storePower (clampPower d) else s

/-- A line of `PWR` answered `Ok`. -/
@[simp] theorem complete_powerLine_ok (s : State) (d : Int) (goto ok fail) (l : RecipeLine) (x y : Byte) (t : State) :
    (powerLine s d goto ok fail l).complete (.board (.ok [x, y])) t =
      l.advance goto ok (storeFirst d l (t.transact (frameW1 s.params.regMap (recipeWrite s.params (clampPower d) l).1
        (recipeWrite s.params (clampPower d) l).2) (.ok [x, y]))) := by
  simp [powerLine, recipeLine, pokeWriteLine, writeLine, Line.after, Line.complete, storeFirst]

/-- A line of `PWR` answered `Err`. -/
@[simp] theorem complete_powerLine_err (s : State) (d : Int) (goto ok fail) (l : RecipeLine) (t : State) :
    (powerLine s d goto ok fail l).complete (.board .err) t =
      tryErr (l.advance goto ok) fail (.busError (addrByte s.params.regMap (recipeWrite s.params (clampPower d) l).1 .write))
        (storeFirst d l (t.transact (frameW1 s.params.regMap (recipeWrite s.params (clampPower d) l).1
          (recipeWrite s.params (clampPower d) l).2) .err)) := by
  simp [powerLine, recipeLine, pokeWriteLine, writeLine, Line.after, Line.complete, storeFirst, frameW1]

/-- The read of `MODE` answered `Ok`: the shadow holds no value (R170). -/
@[simp] theorem complete_modeLine_e1_ok (s : State) (m : OpMode) (at2 ok fail) (x v : Byte) (t : State) :
    (modeLine s m at2 ok fail .e1).complete (.board (.ok [x, v])) t =
      at2 ((t.transact (frameR1 s.params.regMap s.params.regMap.aOpmode) (.ok [x, v])).clearShadow.latchEdit v) := by
  simp [modeLine, pokeEditLine, editLine, readLine, Line.after, Line.complete]

/-- The read of `MODE` answered `Err` (R122). -/
@[simp] theorem complete_modeLine_e1_err (s : State) (m : OpMode) (at2 ok fail) (t : State) :
    (modeLine s m at2 ok fail .e1).complete (.board .err) t =
      tryErr ok fail (.busError (addrByte s.params.regMap s.params.regMap.aOpmode .read))
        (t.transact (frameR1 s.params.regMap s.params.regMap.aOpmode) .err).clearShadow := by
  simp [modeLine, pokeEditLine, editLine, readLine, Line.after, Line.complete, frameR1]

/-- The write of `MODE` answered `Ok`: the shadow takes the mode (R170). -/
@[simp] theorem complete_modeLine_e2_ok (s : State) (m : OpMode) (at2 ok fail) (x y : Byte) (t : State) :
    (modeLine s m at2 ok fail .e2).complete (.board (.ok [x, y])) t =
      ok ((t.transact (frameW1 s.params.regMap s.params.regMap.aOpmode (modeFn s.params.regMap m s.editOld))
        (.ok [x, y])).setShadow m) := by
  simp [modeLine, pokeEditLine, editLine]

/-- The write of `MODE` answered `Err` (R122). -/
@[simp] theorem complete_modeLine_e2_err (s : State) (m : OpMode) (at2 ok fail) (t : State) :
    (modeLine s m at2 ok fail .e2).complete (.board .err) t =
      tryErr ok fail (.busError (addrByte s.params.regMap s.params.regMap.aOpmode .write))
        (t.transact (frameW1 s.params.regMap s.params.regMap.aOpmode (modeFn s.params.regMap m s.editOld)) .err) := by
  simp [modeLine, pokeEditLine, editLine]

/-- Entering a loop runs the unlabelled lines above it (R13). -/
@[simp] theorem before_entered (above : State → State) (s : State) : LoopHead.before above .entered s = above s := rfl

/-- Repeating a loop runs none (R13). -/
@[simp] theorem before_repeated (above : State → State) (s : State) : LoopHead.before above .repeated s = s := rfl

/-- What the line above the loop of `SYNC` does (R152, R13). -/
theorem before_startSync (h : LoopHead) (s : State) :
    h.before State.startSync s = { s with attempt := if h = .entered then 1 else s.attempt } := by cases h <;> rfl

/-- What the line above the loop of `WAITF` does (R175, R13). -/
theorem before_startPoll (h : LoopHead) (s : State) :
    h.before State.startPoll s = { s with polls := if h = .entered then 0 else s.polls } := by cases h <;> rfl

/-- A poll read answered `Ok` (R175). -/
@[simp] theorem complete_pollLine_ok (r : RegMap) (f : Flag) (h : LoopHead) (again ok fail) (x v : Byte) (s : State) :
    (pollLine r f h again ok fail).complete (.board (.ok [x, v])) s =
      let t := h.before State.startPoll (s.transact (frameR1 r (flagAddr r f)) (.ok [x, v]))
      if flagSet v (flagMask r f) then ok t
      else if t.params.pollLimit = some (t.polls + 1) then fail (.pollTimeout f) t.countPoll
      else again t.countPoll := by
  simp [pollLine, readLine, Line.after, Line.complete]

/-- A poll read answered `Err` (R175). -/
@[simp] theorem complete_pollLine_err (r : RegMap) (f : Flag) (h : LoopHead) (again ok fail) (s : State) :
    (pollLine r f h again ok fail).complete (.board .err) s =
      fail (.busError (addrByte r (flagAddr r f) .read))
        (h.before State.startPoll (s.transact (frameR1 r (flagAddr r f)) .err)) := by
  simp [pollLine, readLine, Line.after, Line.complete]

/-- The read of a sync attempt answered `Ok` (R152). -/
@[simp] theorem complete_syncLine_y1_ok (r : RegMap) (sentinel : Byte) (h : LoopHead) (goto ok fail) (x v : Byte) (s : State) :
    (syncLine r sentinel goto ok fail (.y1 h)).complete (.board (.ok [x, v])) s =
      let t := h.before State.startSync (s.transact (frameR1 r r.aSync) (.ok [x, v]))
      if v = sentinel then ok t else goto .y2 t := by
  simp [syncLine, readLine, Line.after, Line.complete]

/-- The write of a sync attempt answered `Ok` (R152, R154). -/
@[simp] theorem complete_syncLine_y2_ok (r : RegMap) (sentinel : Byte) (goto ok fail) (x y : Byte) (s : State) :
    (syncLine r sentinel goto ok fail .y2).complete (.board (.ok [x, y])) s =
      let t := s.transact (frameW1 r r.aSync sentinel) (.ok [x, y])
      if t.attempt = 15 then fail (.notSyncing sentinel) t else goto (.y1 .repeated) t.countAttempt := by
  simp only [syncLine, complete_writeLine_ok, Config.syncAttempts]
  rfl

/-- The unlabelled lines before a line happen in the step that completes a transfer (R13). -/
@[simp] theorem complete_after_transfer (pre : State → State) (tx ok err) (ans : Answer) (s : State) :
    ((Line.transfer tx ok err).after pre).complete (.board ans) s =
      (Line.transfer tx (fun d t => ok d (pre t)) (fun e t => err e (pre t))).complete (.board ans) s := rfl

/-- A line is completed by one kind of turn only; every other turn passes (log 1). -/
theorem complete_pass (l : Line) (t : Turn) (s : State) (h : t.isSequencer = false) : l.complete t s = s := by
  cases l <;> cases t <;> simp_all [Line.complete, Turn.isSequencer]

/-- What a line must satisfy for `P` to hold however a turn completes it. -/
def Line.Keeps (P : State → Prop) (s : State) : Line → Prop
  | .transfer tx ok err =>
    (∀ rx : List Byte, rx.length = tx.length → P (ok (rx.drop 1) (s.transact tx (.ok rx)))) ∧
    P (err (.busError (tx.headD 0)) (s.transact tx .err))
  | .setReset level ok err =>
    P (ok (s.emit (.setReset level true))) ∧ P (err (.resetLineError level) (s.emit (.setReset level false)))
  | .hold micros ok => P (ok (s.emit (.hold micros)))
  | .free ok => P (ok s)
  | .wait ok => s.evtPending = true → P (ok s.takeEvent)
  | .offer p ok => P (ok ((s.latchPacket p).emit (.packet p)))

/-- Everything completing a line can do: nothing, or one of the continuations `Line.Keeps` lists. -/
theorem complete_keeps {P : State → Prop} {l : Line} {s : State} (h : P s) (hk : l.Keeps P s) (t : Turn) :
    P (l.complete t s) := by
  cases l with
  | transfer tx ok err =>
    cases t with
    | board ans =>
      cases ans with
      | err => simpa [Line.complete] using hk.2
      | ok rx =>
        by_cases hl : rx.length = tx.length
        · simpa [Line.complete, hl] using hk.1 rx hl
        · simpa [Line.complete, hl] using h
    | _ => exact h
  | setReset level ok err =>
    cases t with
    | line b => cases b <;> simp [Line.complete, hk.1, hk.2]
    | _ => exact h
  | hold micros ok => cases t <;> first | exact hk | exact h
  | free ok => cases t <;> first | exact hk | exact h
  | wait ok =>
    cases t with
    | tick =>
      cases he : s.evtPending
      · simpa [Line.complete, he] using h
      · simpa [Line.complete, he] using hk he
    | _ => exact h
  | offer p ok => cases t <;> first | exact hk | exact h

/-! ### The sequencer's run -/

/-- No line depends on the turns still to come. -/
@[simp] theorem lineAt_withEnv (s : State) (ts : List Turn) (p : Pos) : lineAt (s.withEnv ts) p = lineAt s p := by
  cases p <;> rfl

@[simp] theorem forgotten_withEnv (s : State) (ts : List Turn) : (s.withEnv ts).forgotten = s.forgotten := by
  cases h : s.seq <;> simp [State.forgotten, h]

@[simp] theorem takeLine_idle {t : Turn} {s : State} (h : s.seq = .idle) : takeLine t s = s := by simp [takeLine, h]

theorem takeLine_running {t : Turn} {s : State} {p : Pos} (h : s.seq = .running p) :
    takeLine t s = (lineAt s p).complete t s := by simp [takeLine, h]

@[simp] theorem drive_nil (s : State) : drive [] s = s := rfl

/-- At `Idle` the sequencer takes no turn. -/
theorem drive_idle (ts : List Turn) {s : State} (h : s.seq = .idle) : drive ts s = s := by
  cases ts <;> simp [drive, h]

/-- Another agent's turn ends the run. -/
theorem drive_other {t : Turn} (rest : List Turn) (s : State) (h : t.isSequencer = false) : drive (t :: rest) s = s := by
  simp [drive, h]

/-- One turn of the run: the line at the position, completed by the turn (R13). -/
theorem drive_line {t : Turn} {rest : List Turn} {s : State} {p : Pos} (h : s.seq = .running p) (ht : t.isSequencer = true) :
    drive (t :: rest) s = drive rest ((lineAt (s.withEnv rest) p).complete t (s.withEnv rest)) := by
  simp [drive, ht, State.busy, takeLine, h]

/-- The induction over a run, once: what taking up a turn and completing one line keep, the run keeps. -/
theorem drive_keeps {P : State → Prop}
    (hstep : ∀ (t : Turn) (rest : List Turn) (s : State) (p : Pos), P s → s.seq = .running p → t.isSequencer = true →
      P ((lineAt (s.withEnv rest) p).complete t (s.withEnv rest))) :
    ∀ (ts : List Turn) (s : State), P s → P (drive ts s)
  | [], _, h => h
  | t :: rest, s, h => by
    cases ht : t.isSequencer
    · rw [drive_other _ _ ht]; exact h
    · cases hs : s.seq with
      | idle => rw [drive_idle _ hs]; exact h
      | running p => rw [drive_line hs ht]; exact drive_keeps hstep rest _ (hstep t rest s p h hs ht)

/-! ### One step -/

/-- Everything a step can do, by the next turn. -/
theorem step_cases (s : State) :
    (s.env = [] ∧ step s = .next s) ∨
    (∃ op operands rest, s.env = .cmd op operands :: rest ∧ step s = command op operands (s.withEnv rest)) ∨
    (∃ rest, s.env = .irq :: rest ∧ step s = .next (s.withEnv rest).irqRise) ∨
    (∃ rest, s.env = .blockReset :: rest ∧ step s = .next (s.withEnv rest).blockReset) ∨
    (∃ rest, s.env = .pass :: rest ∧ step s = .next (s.withEnv rest)) ∨
    (∃ t rest, s.env = t :: rest ∧ t.isSequencer = true ∧ step s = .next (takeLine t (s.withEnv rest))) := by
  unfold step turn
  split <;> rename_i he <;> simp [he, Turn.isSequencer]

/-- A turn of the sequencer is one step, which completes one line (R13). -/
theorem step_line {t : Turn} {rest : List Turn} {s : State} (he : s.env = t :: rest) (ht : t.isSequencer = true) :
    step s = .next (takeLine t (s.withEnv rest)) := by
  cases t <;> simp_all [step, turn, Turn.isSequencer]

/-- What a command can do: refused while busy, refused when illegal, or the acceptance of the decoded operation (R258). -/
theorem command_cases (op : Byte) (operands : List Byte) (s : State) :
    (s.busy = true ∧ command op operands s = .next (s.refuse .busy)) ∨
    (s.busy = false ∧ (∃ r, decodeCmd op operands = .reject r) ∧
      command op operands s = .next (s.refuse (.illegalCommand op))) ∨
    (s.busy = false ∧ ∃ i, decodeCmd op operands = .instr i ∧
      command op operands s = keepTurns s.env (exec i (s.withEnv []))) := by
  unfold command
  cases hb : s.busy
  · cases hd : decodeCmd op operands <;> simp
  · simp

/-- Keeping turns back changes an outcome in its turns only. -/
theorem keepTurns_next {ts : List Turn} {o : Host.Outcome State Fault Refusal} {t : State} (h : keepTurns ts o = .next t) :
    ∃ u, o = .next u ∧ t = u.withEnv ts := by
  cases o <;> simp_all [keepTurns]

/-- Everything a step can do with an operation in progress: the command that comes is refused, the edge or block reset has its
effect, the turn passes, or the sequencer completes one line. What each of these keeps, the step keeps. -/
theorem step_running_keeps {P : State → Prop} {s t : State} {p : Pos} (hs : s.seq = .running p) (h0 : P s)
    (henv : ∀ u ts, P u → P (u.withEnv ts)) (hbusy : ∀ rest, P ((s.withEnv rest).refuse .busy))
    (hirq : ∀ rest, P (s.withEnv rest).irqRise)
    (hreset : ∀ rest, s.env = .blockReset :: rest → P (s.withEnv rest).blockReset)
    (hk : ∀ u q, P u → u.seq = .running q → (lineAt u q).Keeps P u) (h : step s = .next t) : P t := by
  have hb : ∀ ts, (s.withEnv ts).busy = true := fun ts => by simp [State.busy, hs]
  obtain ⟨-, h'⟩ | ⟨op, operands, rest, -, h'⟩ | ⟨rest, -, h'⟩ | ⟨rest, he, h'⟩ | ⟨rest, -, h'⟩ |
      ⟨tu, rest, -, -, h'⟩ := step_cases s <;> rw [h'] at h
  · cases h; exact h0
  · simp only [command, hb] at h; cases h; exact hbusy rest
  · cases h; exact hirq rest
  · cases h; exact hreset rest he
  · cases h; exact henv s rest h0
  · cases h
    rw [takeLine_running (p := p) (by simpa using hs)]
    exact complete_keeps (henv s rest h0) (hk _ p (henv s rest h0) (by simpa using hs)) tu

/-- What taking up the turns and every line keep, the run of an operation keeps. -/
theorem drive_lines_keep {P : State → Prop} (henv : ∀ u ts, P u → P (u.withEnv ts))
    (hk : ∀ u q, P u → u.seq = .running q → (lineAt u q).Keeps P u) (ts : List Turn) (s : State) (h0 : P s) :
    P (drive ts s) :=
  drive_keeps (fun tu rest u q hu hq _ =>
    complete_keeps (henv u rest hu) (hk _ q (henv u rest hu) (by simpa using hq)) tu) ts s h0

end Sys2Proof.Machine
end

