-- ==== Sys2Proof/Laws/PerInstr.lean ====
section
/-! SUPPORT. One lemma per constructor for the family `EncodedLength`: the encoding of an operation is as long as the opcode
table's `length_bytes` says (R80 to R89). -/

namespace Sys2Proof.Laws

/-- The table's `length_bytes`. -/
def tableLength : Instr → Nat
  | .rd _ | .pwr _ | .sync _ | .mode _ | .waitf _ => 2
  | .wr _ _ | .brd _ _ => 3
  | .ed _ _ _ => 4
  | .rstp | .rxs => 1
  | .bwr _ bytes => 3 + bytes.length
  | .setup cfg => 2 + 2 * cfg.length
  | .send _ payload => 3 + payload.length
  | .busR1 _ | .busW1 _ _ => 2
  | .busRN _ n => 1 + n
  | .busWN _ bytes => 1 + bytes.length
  | .fifoFrame _ _ _ _ payload => 4 + payload.length

/-- The encoding has the table's length. -/
def EncodedLength.Statement (i : Instr) : Prop := ∀ p : Params, (encode p i).length = tableLength i

theorem length_bytesOfPairs (cfg : List (Byte × Byte)) : (bytesOfPairs cfg).length = 2 * cfg.length := by
  induction cfg with
  | nil => rfl
  | cons c cfg ih => simp [bytesOfPairs, ih]; omega

theorem EncodedLength.rd (a : Byte) : EncodedLength.Statement (.rd a) := fun _ => rfl
theorem EncodedLength.wr (a v : Byte) : EncodedLength.Statement (.wr a v) := fun _ => rfl
theorem EncodedLength.ed (a clr set : Byte) : EncodedLength.Statement (.ed a clr set) := fun _ => rfl
theorem EncodedLength.brd (a n : Byte) : EncodedLength.Statement (.brd a n) := fun _ => rfl
theorem EncodedLength.bwr (a : Byte) (bytes : List Byte) : EncodedLength.Statement (.bwr a bytes) := fun _ => by
  simp [encode, tableLength]; omega
theorem EncodedLength.pwr (p : Byte) : EncodedLength.Statement (.pwr p) := fun _ => rfl
theorem EncodedLength.rstp : EncodedLength.Statement .rstp := fun _ => rfl
theorem EncodedLength.sync (s : Byte) : EncodedLength.Statement (.sync s) := fun _ => rfl
theorem EncodedLength.setup (cfg : List (Byte × Byte)) : EncodedLength.Statement (.setup cfg) := fun _ => by
  simp [encode, tableLength, length_bytesOfPairs]; omega
theorem EncodedLength.mode (m : OpMode) : EncodedLength.Statement (.mode m) := fun _ => rfl
theorem EncodedLength.waitf (f : Flag) : EncodedLength.Statement (.waitf f) := fun _ => rfl
theorem EncodedLength.send (dst : Byte) (payload : List Byte) : EncodedLength.Statement (.send dst payload) := fun _ => by
  simp [encode, tableLength]; omega
theorem EncodedLength.rxs : EncodedLength.Statement .rxs := fun _ => rfl
theorem EncodedLength.busR1 (a : Byte) : EncodedLength.Statement (.busR1 a) := fun _ => rfl
theorem EncodedLength.busW1 (a v : Byte) : EncodedLength.Statement (.busW1 a v) := fun _ => rfl
theorem EncodedLength.busRN (a : Byte) (n : Nat) : EncodedLength.Statement (.busRN a n) := fun _ => by
  simp [encode, tableLength, frameRN]; omega
theorem EncodedLength.busWN (a : Byte) (bytes : List Byte) : EncodedLength.Statement (.busWN a bytes) := fun _ => by
  simp [encode, tableLength, frameWN]; omega
theorem EncodedLength.fifoFrame (len dst src ctl : Byte) (payload : List Byte) :
    EncodedLength.Statement (.fifoFrame len dst src ctl payload) := fun _ => by
  simp [encode, tableLength, fifoBytes]; omega

end Sys2Proof.Laws
end

