-- ==== Sys2Proof/Tests/Slice0.lean ====
section
/-! SUPPORT. Small tests with results taken from spec/95_test_vectors.md (V-..., P1 to P6) or worked out by hand from a rule,
and the witnesses that the hypotheses of each statement can be met. -/

namespace Sys2Proof.Tests

open Sys2Proof Sys2Proof.Machine

/-! ### Helpers -/

/-- Right after block reset, with turns to come. -/
def idle (ts : List Turn) : State := { State.reset with env := ts }
/-- The end state of P1: set up, power 13. -/
def ready (ts : List Turn) : State := { State.reset with env := ts, setupDone := true, txPower := some 13 }
/-- An operation in progress. -/
def running (p : Pos) (ts : List Turn) : State := { ready ts with seq := .running p }
/-- `RXS` in progress. -/
def receiving (l : RxsLine) (ts : List Turn) : State := { running (.rxs l) ts with arbEnabled := true }
/-- The default parameters with the other poke policy. -/
def lenientParams : Params := { Config.defaultParams with pokePolicy := .bestEffort }
/-- The default parameters with a poll bound. -/
def boundedParams : Params := { Config.defaultParams with pollLimit := some 3, pollLimitWf := by decide }
/-- With the other poke policy. -/
def lenient (s : State) : State := { s with params := lenientParams }
/-- With a poll bound of 3. -/
def bounded (s : State) : State := { s with params := boundedParams }
/-- What the ports carried. -/
def traceOf : Host.Outcome State Fault Refusal → List Event
  | .next t => t.trace
  | .fault _ | .refused _ => []
/-- A field of the next state. -/
def field {α : Type} (f : State → α) : Host.Outcome State Fault Refusal → Option α
  | .next t => some (f t)
  | .fault _ | .refused _ => none
/-- `n` steps. -/
def steps (n : Nat) (s : State) : Host.Outcome State Fault Refusal := Sys2Proof.core.run n s
/-- A read answered `Ok` with a value, and a write answered `Ok`. -/
def rx (v : Byte) : Turn := answer (0, v)
def wx : Turn := answer (0, 0)
/-- A transfer answered `Ok` with a value. -/
def got (tx : List Byte) (v : Byte) : Event := .transfer tx (some [0, v])
def put (tx : List Byte) : Event := .transfer tx (some [0, 0])

/-! ### Well-formedness: an ill-formed term for each check -/

theorem test_wf_bwr : Instr.wf Config.defaultParams (.bwr 0 (List.replicate 256 0)) = false := by
  simp only [Instr.wf, List.length_replicate]; decide
theorem test_wf_setup : Instr.wf Config.defaultParams (.setup (List.replicate 256 (0, 0))) = false := by
  simp only [Instr.wf, List.length_replicate]; decide
theorem test_wf_send : Instr.wf Config.defaultParams (.send 0 (List.replicate 256 0)) = false := by
  simp only [Instr.wf, List.length_replicate]; decide
theorem test_wf_busR1 : Instr.wf Config.defaultParams (.busR1 0x80) = false := by decide
theorem test_wf_busW1 : Instr.wf Config.defaultParams (.busW1 0x81 0) = false := by decide
theorem test_wf_busRN : Instr.wf Config.defaultParams (.busRN 0 1) = false ∧
    Instr.wf Config.defaultParams (.busRN 0x80 2) = false := by decide
theorem test_wf_busWN : Instr.wf Config.defaultParams (.busWN 0 [1]) = false ∧
    Instr.wf Config.defaultParams (.busWN 0x80 []) = false := by decide
theorem test_wf_fifoFrame : Instr.wf Config.defaultParams (.fifoFrame 4 0 0 0 []) = false ∧
    Instr.wf Config.defaultParams (.fifoFrame 0 0 0 0 (List.replicate 253 0)) = false := by
  simp only [Instr.wf, List.length_replicate]; decide
theorem test_wf_map_direction : RegMap.wf { Config.rmDefault with dirWrite := 0 } = false := by decide
theorem test_wf_map_address : RegMap.wf { Config.rmDefault with aSync := 0xAF } = false := by decide
theorem test_wf_map_mode : RegMap.wf { Config.rmDefault with modeReceive := 0x04 } = false := by decide
theorem test_wf_map_bits : RegMap.wf { Config.rmDefault with vFifoClear := 0x30 } = false := by decide
theorem test_wf_map_level : RegMap.wf { Config.rmDefault with mLevel := 0x3F } = false := by decide
theorem test_wf_table_level :
    PowerTable.wf Config.rmDefault (Config.ptDefault.set 0 ⟨0x20, false, false⟩) = false := by decide
theorem test_wf_table_boost :
    PowerTable.wf Config.rmDefault (Config.ptDefault.set 0 ⟨0x10, false, true⟩) = false := by decide

/-! ### Decoding: words written out from R82 to R89 -/

theorem test_decode_rd : decodeCmd 0x01 [0x2F] = .instr (.rd 0x2F) := by decide
theorem test_decode_wr : decodeCmd 0x02 [0x2F, 0x55] = .instr (.wr 0x2F 0x55) := by decide
theorem test_decode_ed : decodeCmd 0x03 [0x01, 0x1C, 0x10] = .instr (.ed 0x01 0x1C 0x10) := by decide
theorem test_decode_brd : decodeCmd 0x04 [0x00, 0xFF] = .instr (.brd 0x00 0xFF) := by decide
theorem test_decode_bwr : decodeCmd 0x05 [0x00, 0x03, 9, 8, 7] = .instr (.bwr 0x00 [9, 8, 7]) := by decide
theorem test_decode_pwr : decodeCmd 0x10 [0xFD] = .instr (.pwr (-3)) := by decide
theorem test_decode_rstp : decodeCmd 0x20 [] = .instr .rstp := by decide
theorem test_decode_sync : decodeCmd 0x21 [0xAA] = .instr (.sync 0xAA) := by decide
theorem test_decode_setup :
    decodeCmd 0x22 [0x02, 0x30, 0x2D, 0x38, 0x42] = .instr (.setup [(0x30, 0x2D), (0x38, 0x42)]) := by decide
theorem test_decode_mode : decodeCmd 0x30 [0] = .instr (.mode .standby) ∧ decodeCmd 0x30 [1] = .instr (.mode .receive) ∧
    decodeCmd 0x30 [2] = .instr (.mode .transmit) := by decide
theorem test_decode_waitf : decodeCmd 0x31 [0] = .instr (.waitf .modeReady) ∧
    decodeCmd 0x31 [1] = .instr (.waitf .packetSent) := by decide
theorem test_decode_send :
    decodeCmd 0x40 [0x02, 0x06, 0x61, 0x62, 0x63, 0x31, 0x32, 0x33] =
      .instr (.send 0x02 [0x61, 0x62, 0x63, 0x31, 0x32, 0x33]) := by decide
theorem test_decode_rxs : decodeCmd 0x50 [] = .instr .rxs := by decide
theorem test_decode_busR1 : decodeBus Config.rmDefault [0x2F, 0x00] = .instr (.busR1 0x2F) := by decide
theorem test_decode_busW1 : decodeBus Config.rmDefault [0xAF, 0x55] = .instr (.busW1 0x2F 0x55) := by decide
theorem test_decode_busRN : decodeBus Config.rmDefault [0x00, 0, 0, 0, 0] = .instr (.busRN 0 4) ∧
    decodeBus Config.rmDefault [0x00] = .instr (.busRN 0 0) := by decide
theorem test_decode_busWN : decodeBus Config.rmDefault [0x80, 9, 2] = .instr (.busWN 0 [9, 2]) ∧
    decodeBus Config.rmDefault [0x80] = .instr (.busWN 0 []) := by decide
theorem test_decode_fifoFrame :
    decodeFifo [0x05, 0x02, 0x01, 0x00, 0x61, 0x62] = .instr (.fifoFrame 0x05 0x02 0x01 0x00 [0x61, 0x62]) := by decide

/-- V-E3, V-E4, V-M10, V-F9 and wrong counts (R92). -/
theorem test_decode_rejects : decodeCmd 0x99 [] = .reject .illegalOpcode ∧ decodeCmd 0x02 [0x2F] = .reject .wrongCount ∧
    decodeCmd 0x30 [3] = .reject .illegalMode ∧ decodeCmd 0x31 [2] = .reject .illegalFlag ∧
    decodeCmd 0x05 [0, 2, 1] = .reject .wrongCount ∧ decodeCmd 0x22 [1, 0x30] = .reject .wrongCount ∧
    decodeCmd 0x22 [1, 1, 1, 2, 2] = .reject .wrongCount ∧ decodeCmd 0x50 [0] = .reject .wrongCount ∧
    decodeCmd 0x00 [] = .reject .illegalOpcode := by decide
/-- A read frame carries only `FILL` (R84); a FIFO frame's first byte is its payload's length plus 3 (R86). -/
theorem test_decode_frame_rejects : decodeBus Config.rmDefault [0x2F, 0x01] = .reject .notFill ∧
    decodeBus Config.rmDefault [] = .reject .empty ∧ decodeFifo [0x06, 2, 1, 0, 0x61, 0x62] = .reject .wrongFifoLength ∧
    decodeFifo [3, 2, 1] = .reject .wrongFifoLength := by decide
set_option maxRecDepth 4000 in
/-- `SEND` of 255 bytes is a well-formed command (R92). -/
theorem test_send_255_well_formed :
    decodeCmd 0x40 (0x02 :: 0xFF :: List.replicate 255 0) = .instr (.send 0x02 (List.replicate 255 0)) := by decide
theorem test_table_words : decodeTableWord 8 0x01 = some (.rd 0) ∧ decodeTableWord 8 0x22 = some (.setup []) ∧
    decodeTableWord 8 0x80 = some (.busW1 0 0) ∧ decodeTableWord 8 0x00 = some (.busR1 0) := by decide
/-- The step after placing `WR`'s word issues the command: it awaits the Board at `X1`. -/
theorem test_fetch_word_wr : field State.seq (step (State.reset.withFetchWord 8 0x02)) = some (.running (.wr 0 0)) := by decide
theorem test_fetch_word_busR1 : traceOf (step (State.reset.withFetchWord 8 0x00)) =
    [put [0x00, 0x00], .response [0, 0, 0]] := by decide

/-! ### Register access -/

/-- V-X2, V-X3. -/
theorem test_rd : traceOf (exec (.rd 0xAF) (idle [answer (0xFF, 0x12)])) =
    [.transfer [0x2F, 0x00] (some [0xFF, 0x12]), .response [0x00, 0x00, 0x12]] := by decide
/-- V-X4. -/
theorem test_rd_fails : traceOf (exec (.rd 0x2F) (idle [.board .err])) =
    [.transfer [0x2F, 0x00] none, .response [0x01, 0x2F]] := by decide
/-- V-X5. -/
theorem test_wr : traceOf (exec (.wr 0x2F 0x55) (idle [wx])) = [put [0xAF, 0x55], .response [0x00, 0x00]] := by decide
/-- V-X8, V-X10. -/
theorem test_ed : traceOf (exec (.ed 0x01 0x1C 0x10) (idle [rx 0xE7, wx])) =
      [got [0x01, 0x00] 0xE7, put [0x81, 0xF3], .response [0x00, 0x00]] ∧
    traceOf (exec (.ed 0x3D 0x04 0x04) (idle [rx 0x00, wx])) =
      [got [0x3D, 0x00] 0x00, put [0xBD, 0x04], .response [0x00, 0x00]] := by decide
/-- V-X12. -/
theorem test_ed_write_fails : traceOf (exec (.ed 0x01 0x1C 0x10) (idle [rx 0x04, .board .err])) =
    [got [0x01, 0x00] 0x04, .transfer [0x81, 0x10] none, .response [0x01, 0x81]] := by decide
/-- V-X13. -/
theorem test_brd : traceOf (exec (.brd 0x00 4) (idle [.board (.ok [7, 9, 2, 1, 0])])) =
    [.transfer [0, 0, 0, 0, 0] (some [7, 9, 2, 1, 0]), .response [0, 0, 9, 2, 1, 0]] := by decide
/-- V-X14. -/
theorem test_brd_zero : traceOf (exec (.brd 0x00 0) (idle [.board (.ok [7])])) =
    [.transfer [0] (some [7]), .response [0, 0]] := by decide
/-- V-X16, V-X18. -/
theorem test_bwr : traceOf (exec (.bwr 0x00 []) (idle [.board (.ok [7])])) =
      [.transfer [0x80] (some [7]), .response [0, 0]] ∧
    traceOf (exec (.bwr 0x00 [9, 2]) (idle [.board .err])) = [.transfer [0x80, 9, 2] none, .response [0x01, 0x80]] := by decide
/-- R85, R86: the frame pushed by P2's transaction 10, as its own row. -/
theorem test_fifoFrame : traceOf (exec (.fifoFrame 0x05 0x02 0x01 0x00 [0x61, 0x62])
      (idle [.board (.ok [0, 0, 0, 0, 0, 0, 0])])) =
    [.transfer [0x80, 0x05, 0x02, 0x01, 0x00, 0x61, 0x62] (some [0, 0, 0, 0, 0, 0, 0])] := by decide
/-- An answer of another length is no answer (R7): it passes. -/
theorem test_short_answer_passes : traceOf (exec (.rd 0x2F) (idle [.board (.ok [1]), rx 0x05])) =
    [got [0x2F, 0x00] 0x05, .response [0, 0, 5]] := by decide

/-! ### Power -/

/-- V-P2: clamped from below, base tier. -/
theorem test_pwr_low : field State.txPower (exec (.pwr 0xFD) (idle [wx, wx, wx, wx])) = some (some (-2)) ∧
    traceOf (exec (.pwr 0xFD) (idle [wx, wx, wx, wx])) =
      [put [0xDA, 0x55], put [0xDC, 0x70], put [0x91, 0x50], put [0x93, 0x1A], .response [0, 0]] := by decide
/-- V-P6, V-P11: the second stage; clamped from above, high power. -/
theorem test_pwr_tiers : traceOf (exec (.pwr 14) (idle [wx, wx, wx, wx])) =
      [put [0xDA, 0x55], put [0xDC, 0x70], put [0x91, 0x7C], put [0x93, 0x1A], .response [0, 0]] ∧
    traceOf (exec (.pwr 0x7F) (idle [wx, wx, wx, wx])) =
      [put [0x93, 0x0F], put [0x91, 0x7F], put [0xDA, 0x5D], put [0xDC, 0x7C], .response [0, 0]] := by decide
/-- P5 under both policies. -/
theorem test_pwr_failure : traceOf (exec (.pwr 20) (ready [wx, .board .err])) =
      [put [0x93, 0x0F], .transfer [0x91, 0x7F] none, .response [0x01, 0x91]] ∧
    traceOf (exec (.pwr 20) (lenient (ready [wx, .board .err, wx, wx]))) =
      [put [0x93, 0x0F], .transfer [0x91, 0x7F] none, put [0xDA, 0x5D], put [0xDC, 0x7C], .response [0, 0]] := by decide

/-! ### Reset pulse, handshake, set-up -/

/-- V-Y8, V-Y10. -/
theorem test_rstp : traceOf (exec .rstp (ready [.line true, .tick, .line true, .tick])) =
      [.setReset true true, .hold 100, .setReset false true, .hold 5000, .response [0, 0]] ∧
    traceOf (exec .rstp (ready [.line true, .tick, .line false])) =
      [.setReset true true, .hold 100, .setReset false false, .response [0x03, 0x00]] ∧
    field State.setupDone (exec .rstp (ready [.line false])) = some false := by decide
/-- V-Y2. -/
theorem test_sync : traceOf (exec (.sync 0x55) (idle [rx 0xAA, wx, rx 0x55])) =
      [got [0x2F, 0x00] 0xAA, put [0xAF, 0x55], got [0x2F, 0x00] 0x55, .response [0, 0]] ∧
    field State.attempt (exec (.sync 0x55) (idle [rx 0xAA, wx, rx 0x55])) = some 2 := by decide
/-- V-Y3, V-Y4: the fifteenth read still counts; the fifteenth write is made. -/
theorem test_sync_bound :
    field State.seq (exec (.sync 0xAA) (idle ((List.replicate 14 [rx 0, wx]).flatten ++ [rx 0xAA]))) = some .idle ∧
    (traceOf (exec (.sync 0xAA) (idle (List.replicate 15 [rx 0, wx]).flatten))).getLast? = some (.response [0x02, 0xAA]) ∧
    (traceOf (exec (.sync 0xAA) (idle (List.replicate 15 [rx 0, wx]).flatten))).length = 31 := by decide
/-- P1. -/
def p1 : Host.Outcome State Fault Refusal :=
  exec (.setup [(0x30, 0x2D), (0x38, 0x42)]) (idle ([.line true, .tick, .line true, .tick, rx 0x00, wx, rx 0xAA, rx 0xAA, wx,
    rx 0x55] ++ List.replicate 6 wx))
theorem test_setup_trace : traceOf p1 =
    [.setReset true true, .hold 100, .setReset false true, .hold 5000] ++
    [got [0x2F, 0x00] 0x00, put [0xAF, 0xAA], got [0x2F, 0x00] 0xAA, got [0x2F, 0x00] 0xAA, put [0xAF, 0x55],
     got [0x2F, 0x00] 0x55] ++
    [put [0xB0, 0x2D], put [0xB8, 0x42], put [0xDA, 0x55], put [0xDC, 0x70], put [0x91, 0x5F], put [0x93, 0x1A],
     .response [0, 0]] := by decide
theorem test_setup_state : field (fun t => (t.seq, t.setupDone, t.txPower, t.modeShadow)) p1 =
    some (.idle, true, some 13, none) := by decide

/-! ### Mode and poll -/

/-- V-M4. -/
theorem test_mode : traceOf (exec (.mode .receive) (idle [rx 0xE7, wx])) =
      [got [0x01, 0x00] 0xE7, put [0x81, 0xF3], .response [0, 0]] ∧
    field State.modeShadow (exec (.mode .receive) (idle [rx 0xE7, wx])) = some (some .receive) := by decide
/-- V-M7, V-M8. -/
theorem test_mode_fails : traceOf (exec (.mode .receive) (idle [.board .err])) =
      [.transfer [0x01, 0x00] none, .response [0x01, 0x01]] ∧
    traceOf (exec (.mode .receive) (lenient (idle [.board .err]))) =
      [.transfer [0x01, 0x00] none, .response [0, 0]] := by decide
/-- V-F3. -/
theorem test_waitf : traceOf (exec (.waitf .modeReady) (idle [rx 0x7F, rx 0xFF])) =
    [got [0x27, 0x00] 0x7F, got [0x27, 0x00] 0xFF, .response [0, 0]] := by decide
/-- V-F5, V-F6, V-F7. -/
theorem test_waitf_bound : traceOf (exec (.waitf .modeReady) (bounded (idle [rx 0, rx 0, rx 0]))) =
      [got [0x27, 0x00] 0, got [0x27, 0x00] 0, got [0x27, 0x00] 0, .response [0x06, 0x00]] ∧
    traceOf (exec (.waitf .packetSent) (bounded (idle [rx 0, rx 0, rx 8]))) =
      [got [0x28, 0x00] 0, got [0x28, 0x00] 0, got [0x28, 0x00] 8, .response [0, 0]] ∧
    field State.seq (exec (.waitf .modeReady) (idle [rx 0, rx 0, rx 0])) =
      some (.running (.waitf .modeReady .repeated)) := by decide
/-- R13: `polls <- 0` and `attempt <- 1` happen with the first `F1` and the first `Y1`, not at acceptance. -/
theorem test_counter_start : field State.polls (exec (.waitf .modeReady) { idle [] with polls := 7 }) = some 7 ∧
    field State.polls (exec (.waitf .modeReady) { idle [rx 0] with polls := 7 }) = some 1 ∧
    field State.attempt (exec (.sync 0xAA) { idle [] with attempt := 7 }) = some 7 ∧
    field State.attempt (exec (.sync 0xAA) { idle [rx 0xAA] with attempt := 7 }) = some 1 := by decide
/-- R13: one line is one step; the turns not taken are kept. -/
theorem test_one_line_one_step :
    field (fun t => (t.seq, t.env)) (step (idle [.cmd 0x31 [0], rx 0, rx 0x80])) =
      some (.running (.waitf .modeReady .entered), [rx 0, rx 0x80]) ∧
    field (fun t => (t.seq, t.env)) (steps 2 (idle [.cmd 0x31 [0], rx 0, rx 0x80])) =
      some (.running (.waitf .modeReady .repeated), [rx 0x80]) ∧
    traceOf (steps 3 (idle [.cmd 0x31 [0], rx 0, rx 0x80])) =
      [got [0x27, 0x00] 0, got [0x27, 0x00] 0x80, .response [0, 0]] := by decide

/-! ### Transmit -/

/-- P2. -/
def p2 : Host.Outcome State Fault Refusal :=
  exec (.send 0x02 [0x61, 0x62, 0x63, 0x31, 0x32, 0x33]) (ready ([rx 0x10, wx, rx 0x80] ++ List.replicate 6 wx ++
    [.board (.ok (List.replicate 11 0)), rx 0x04, wx, rx 0x00, rx 0x08, rx 0x0C, wx, rx 0x80] ++ List.replicate 4 wx))
theorem test_send_trace : traceOf p2 =
    [got [0x01, 0x00] 0x10, put [0x81, 0x04], got [0x27, 0x00] 0x80, put [0xA8, 0x10], put [0xDA, 0x55], put [0xDC, 0x70],
     put [0x91, 0x5F], put [0x93, 0x1A], put [0xA5, 0x00]] ++
    [.transfer [0x80, 0x09, 0x02, 0x01, 0x00, 0x61, 0x62, 0x63, 0x31, 0x32, 0x33] (some (List.replicate 11 0))] ++
    [got [0x01, 0x00] 0x04, put [0x81, 0x0C], got [0x28, 0x00] 0x00, got [0x28, 0x00] 0x08, got [0x01, 0x00] 0x0C,
     put [0x81, 0x04], got [0x27, 0x00] 0x80] ++
    [put [0xDA, 0x55], put [0xDC, 0x70], put [0x91, 0x50], put [0x93, 0x1A], .response [0, 0]] := by decide
theorem test_send_state : field (fun t => (t.seq, t.txPower, t.modeShadow, t.txDst)) p2 =
    some (.idle, some 13, some .standby, 0x02) := by decide
set_option maxRecDepth 4000 in
/-- V-T3, V-T5. -/
theorem test_send_refused : traceOf (exec (.send 2 (List.replicate 253 0)) (ready [])) = [.response [0x04, 0x00]] ∧
    traceOf (exec (.send 2 (List.replicate 253 0)) (idle [])) = [.response [0x07, 0x00]] := by decide

/-- R63: the operands are latched at acceptance, before the Board has answered anything. -/
theorem test_operands_latched : field (fun t => (t.txDst, t.txPayload)) (exec (.send 2 [7]) (ready [])) = some (2, [7]) ∧
    field State.cfg (exec (.setup [(0x30, 0x2D)]) (idle [])) = some [(0x30, 0x2D)] ∧
    field State.txPayload (exec (.send 2 [7]) (idle [])) = some [] := by decide
/-- V-T7 with the bound 3, from the write of `T6`. -/
theorem test_send_poll_timeout :
    traceOf (steps 4 (bounded (running (.send 2 [] (.t6 .e2)) [wx, rx 0, rx 0, rx 0]))) =
      [put [0x81, 0x0C], got [0x28, 0x00] 0, got [0x28, 0x00] 0, got [0x28, 0x00] 0, .response [0x06, 0x01]] ∧
    field State.modeShadow (steps 4 (bounded (running (.send 2 [] (.t6 .e2)) [wx, rx 0, rx 0, rx 0]))) =
      some (some .transmit) := by decide
/-- R9: the initial power is a parameter; 25 is clamped to 20, high power. -/
theorem test_initial_power : field State.txPower (steps 2 { running (.setup [] (.s3 (.y1 .entered))) [rx 0x55, wx] with
      params := { Config.defaultParams with initialPower := 25 } }) = some (some 20) := by decide

/-! ### Receive -/

/-- P3, first iteration: V-RX11's six frames of the arm. -/
theorem test_rxs_arm : traceOf (exec .rxs (ready [.tick, rx 0xFB, wx, rx 0x04, wx, wx, wx])) =
    [got [0x28, 0x00] 0xFB, put [0xA5, 0x40], got [0x01, 0x00] 0x04, put [0x81, 0x10], put [0xDA, 0x55],
     put [0xDC, 0x70]] := by decide
/-- V-RX12's eight. -/
theorem test_rxs_restart : traceOf (exec .rxs (ready [.tick, rx 0x04, rx 0x02, wx, wx, rx 0x10, wx, wx, wx])) =
    [got [0x28, 0x00] 0x04, got [0x3D, 0x00] 0x02, put [0xBD, 0x06], put [0xA5, 0x40], got [0x01, 0x00] 0x10,
     put [0x81, 0x10], put [0xDA, 0x55], put [0xDC, 0x70]] := by decide
/-- V-RX2: drain and emit, from `W2` with the edge kept. -/
theorem test_rxs_drain : traceOf (steps 5 { receiving .w2 [.tick, rx 0x50, .board (.ok [0, 9, 1, 2, 0]),
      .board (.ok [0, 0x61, 0x62, 0x63, 0x31, 0x32, 0x33]), .accept] with evtPending := true }) =
    [got [0x24, 0x00] 0x50, .transfer [0, 0, 0, 0, 0] (some [0, 9, 1, 2, 0]),
     .transfer [0, 0, 0, 0, 0, 0, 0] (some [0, 0x61, 0x62, 0x63, 0x31, 0x32, 0x33]),
     .packet ⟨0x02, 0x01, -40, [0x61, 0x62, 0x63, 0x31, 0x32, 0x33]⟩] := by decide
/-- V-RX5. -/
theorem test_rxs_under_length : traceOf (step (receiving .l4 [.board (.ok [0, 2, 1, 2, 0])])) =
    [.transfer [0, 0, 0, 0, 0] (some [0, 2, 1, 2, 0]), .response [0x05, 0x02]] := by decide
/-- V-RX1. -/
theorem test_rssi : ([0, 1, 2, 3, 40, 41, 80, 127, 128, 254, 255] : List Byte).map rssiOf =
    [0, 0, -1, -1, -20, -20, -40, -63, -64, -127, -127] := by decide
/-- V-A4: two edges while the packet is offered are one. -/
theorem test_edges_merge : field State.evtPending (step { receiving .l7 [.irq] with evtPending := true }) = some true := by
  decide
/-- V-A1: an edge before `RXS` is not kept. -/
theorem test_early_edge_lost : field State.evtPending (step (idle [.irq])) = some false := by decide

/-! ### Refusals and block reset -/

/-- V-E1 to V-E4. -/
theorem test_refusals : traceOf (step (receiving .w2 [.cmd 0x01 [0x2F]])) = [.response [0x08, 0x00]] ∧
    traceOf (step (receiving .w2 [.cmd 0x99 []])) = [.response [0x08, 0x00]] ∧
    traceOf (step (idle [.cmd 0x99 []])) = [.response [0x09, 0x99]] ∧
    traceOf (step (idle [.cmd 0x02 [0x2F]])) = [.response [0x09, 0x02]] ∧
    traceOf (step (idle [.cmd 0x50 []])) = [.response [0x07, 0x00]] := by decide
/-- R290, R291 with a `Transfer` outstanding. -/
theorem test_block_reset : traceOf (step (receiving .a1 [.blockReset])) = [.transferForgotten [0x28, 0x00]] ∧
    field (fun t => (t.seq, t.setupDone, t.arbEnabled)) (step (receiving .a1 [.blockReset])) =
      some (.idle, false, false) := by decide

end Sys2Proof.Tests
end

