-- ==== Sys2Proof/Tests/Witnesses.lean ====
section
/-! SUPPORT. For each statement with hypotheses, concrete states and operands that meet all of them together, one part for each
clause, at the boundary values of its ranges. -/

namespace Sys2Proof.Tests

open Sys2Proof Sys2Proof.Machine

/-- A missing sync attempt: reads 0, writes. -/
def miss : Miss := ((0, 0), (0, 0))
/-- The model answers some next state. -/
def answers (o : Host.Outcome State Fault Refusal) : Prop := ∃ t, o = .next t

/-! ### Register access, frames -/

theorem witness_RdIsOneRead :
    ((idle [.board (.ok [0xFF, 0x12])]).seq = .idle ∧
      (idle [.board (.ok [0xFF, 0x12])]).env = .board (.ok [0xFF, 0x12]) :: []) ∧
    ((idle [.board .err]).seq = .idle ∧ (idle [.board .err]).env = .board .err :: []) := by decide
theorem witness_WrIsOneWrite :
    ((idle [.board (.ok [0, 0])]).seq = .idle ∧ (idle [.board (.ok [0, 0])]).env = .board (.ok [0, 0]) :: []) ∧
    ((idle [.board .err]).seq = .idle ∧ (idle [.board .err]).env = .board .err :: []) := by decide
theorem witness_EdReadsThenWrites :
    ((idle [rx 0xE7, wx]).seq = .idle ∧ (idle [rx 0xE7, wx]).env = answer (0, 0xE7) :: answer (0, 0) :: []) ∧
    ((idle [.board .err]).env = .board .err :: []) ∧
    ((idle [rx 0x04, .board .err]).env = answer (0, 0x04) :: .board .err :: []) := by decide
theorem witness_BrdReadsInOneTransfer :
    ((idle [.board (.ok [7])]).seq = .idle ∧ ([] : List Byte).length = (0 : Byte).toNat ∧
      (idle [.board (.ok [7])]).env = .board (.ok (7 :: [])) :: []) ∧
    (List.replicate 255 (0 : Byte)).length = (255 : Byte).toNat ∧
    ((idle [.board .err]).seq = .idle ∧ (idle [.board .err]).env = .board .err :: []) :=
  ⟨by decide, by rw [List.length_replicate]; decide, by decide⟩
theorem witness_BwrWritesInOneTransfer :
    ((idle [.board (.ok [7])]).seq = .idle ∧ ([] : List Byte).length = (0 : Byte).toNat ∧
      ([7] : List Byte).length = ([] : List Byte).length + 1 ∧ (idle [.board (.ok [7])]).env = .board (.ok [7]) :: []) ∧
    (List.replicate 255 (0 : Byte)).length = (255 : Byte).toNat ∧
    ((idle [.board .err]).seq = .idle ∧ (idle [.board .err]).env = .board .err :: []) :=
  ⟨by decide, by rw [List.length_replicate]; decide, by decide⟩
theorem witness_AccessFrame :
    answers (exec (.rd 0x2F) (idle [rx 5])) ∧ answers (exec (.wr 0x2F 1) (idle [])) ∧ answers (exec (.brd 0 0) (idle [])) ∧
    answers (exec (.bwr 0 []) (idle [])) ∧ answers (exec (.ed 1 0x1C 0x10) (idle [rx 4, wx])) ∧
    (Instr.busR1 0).format ≠ .cmd ∧ answers (exec (.busR1 0) (idle [rx 5])) :=
  ⟨⟨_, rfl⟩, ⟨_, rfl⟩, ⟨_, rfl⟩, ⟨_, rfl⟩, ⟨_, rfl⟩, by decide, ⟨_, rfl⟩⟩
theorem witness_TransfersAreBusFrames :
    (running (.rd 0x2F) []).outstanding = some [0x2F, 0x00] ∧
    (running (.wr 0x2F 1) []).outstanding = some [0xAF, 0x01] ∧
    (running (.brd 0 0) []).outstanding = some [0x00] ∧ (running (.bwr 0 []) []).outstanding = some [0x80] := by decide
theorem witness_BusReadFrames :
    (([7] : List Byte).length = 0 + 1 ∧ (idle [.board (.ok [7])]).env = .board (.ok [7]) :: []) ∧
    ((idle [.board .err]).env = .board .err :: []) := by decide
theorem witness_BusWriteFrames :
    (([7] : List Byte).length = ([] : List Byte).length + 1 ∧ (idle [.board (.ok [7])]).env = .board (.ok [7]) :: []) ∧
    ((idle [.board .err]).env = .board .err :: []) := by decide
theorem witness_FifoFramePushed :
    ([0, 0, 0, 0, 0] : List Byte).length = ([] : List Byte).length + 5 ∧
    (idle [.board (.ok [0, 0, 0, 0, 0])]).env = .board (.ok [0, 0, 0, 0, 0]) :: [] := by decide

/-! ### Transmit power -/

theorem witness_PwrStoresAndApplies :
    (idle [wx, wx, wx, wx]).seq = .idle ∧
    (idle [wx, wx, wx, wx]).env = answer (0, 0) :: answer (0, 0) :: answer (0, 0) :: answer (0, 0) :: [] := by decide
theorem witness_PwrStrictFailure :
    ((idle [.board .err]).seq = .idle ∧ (idle [.board .err]).params.pokePolicy = .strict ∧
      ([] : List (Byte × Byte)).length < 4 ∧
      (idle [.board .err]).env = ([] : List (Byte × Byte)).map answer ++ .board .err :: []) ∧
    ((idle [wx, wx, wx, .board .err]).params.pokePolicy = .strict ∧ ([(0, 0), (0, 0), (0, 0)] : List (Byte × Byte)).length < 4 ∧
      (idle [wx, wx, wx, .board .err]).env =
        ([(0, 0), (0, 0), (0, 0)] : List (Byte × Byte)).map answer ++ .board .err :: []) := by decide
theorem witness_PwrBestEffort :
    (lenient (idle [.board .err, wx, wx, .board .err])).seq = .idle ∧
    (lenient (idle [.board .err, wx, wx, .board .err])).params.pokePolicy = .bestEffort ∧
    (lenient (idle [.board .err, wx, wx, .board .err])).env =
      answerOrErr none :: answerOrErr (some (0, 0)) :: answerOrErr (some (0, 0)) :: answerOrErr none :: [] := by decide
theorem witness_TxPowerWriters :
    (∃ t, step (running (.pwr 20 .h1) [wx]) = .next t ∧ t.txPower ≠ (running (.pwr 20 .h1) [wx]).txPower) ∧
    (∃ t, step (running (.setup [] (.s5 .h1)) [wx]) = .next t ∧ t.txPower = some 13 ∧
      step { running (.setup [] (.s5 .h1)) [wx] with txPower := none } = .next t) ∧
    (∃ t, step (ready [.blockReset]) = .next t ∧ t.txPower ≠ (ready [.blockReset]).txPower) :=
  ⟨⟨_, rfl, by decide⟩, ⟨_, rfl, by decide, rfl⟩, ⟨_, rfl, by decide⟩⟩
theorem witness_PowerAndSyncFrame :
    answers (exec (.pwr 20) (idle [wx])) ∧ answers (exec .rstp (idle [.line true])) ∧
    answers (exec (.sync 0xAA) (idle [rx 0])) ∧ answers (exec (.setup []) (idle [.line true])) :=
  ⟨⟨_, rfl⟩, ⟨_, rfl⟩, ⟨_, rfl⟩, ⟨_, rfl⟩⟩

/-! ### Reset pulse, handshake, set-up -/

theorem witness_RstpPulses :
    ((idle [.line true, .tick, .line true, .tick]).seq = .idle ∧
      (idle [.line true, .tick, .line true, .tick]).env = .line true :: .tick :: .line true :: .tick :: []) ∧
    ((idle [.line false]).env = .line false :: []) ∧
    ((idle [.line true, .tick, .line false]).env = .line true :: .tick :: .line false :: []) := by decide
theorem witness_SyncSucceeds :
    ((idle [rx 0xAA]).seq = .idle ∧ ([] : List Miss).length < 15 ∧ (∀ m ∈ ([] : List Miss), m.1.2 ≠ 0xAA) ∧
      (idle [rx 0xAA]).env = missTurns [] ++ answer (0, 0xAA) :: []) ∧
    ((List.replicate 14 miss).length < 15 ∧ (∀ m ∈ List.replicate 14 miss, m.1.2 ≠ 0xAA) ∧
      (idle (missTurns (List.replicate 14 miss) ++ [rx 0xAA])).env =
        missTurns (List.replicate 14 miss) ++ answer (0, 0xAA) :: []) :=
  ⟨⟨rfl, by decide, fun _ h => (by cases h), rfl⟩, by rw [List.length_replicate]; decide,
    fun m h => (by rw [List.eq_of_mem_replicate h]; decide), rfl⟩
theorem witness_SyncFailsAfterFifteen :
    (idle (missTurns (List.replicate 15 miss))).seq = .idle ∧ (List.replicate 15 miss).length = 15 ∧
    (∀ m ∈ List.replicate 15 miss, m.1.2 ≠ 0xAA) ∧
    (idle (missTurns (List.replicate 15 miss))).env = missTurns (List.replicate 15 miss) ++ [] :=
  ⟨rfl, List.length_replicate, fun m h => (by rw [List.eq_of_mem_replicate h]; decide), rfl⟩
/-- `SYNC 0xAA` in progress at an attempt. -/
def syncing (k : Nat) (l : SyncLine) (ts : List Turn) : State := { running (.sync 0xAA l) ts with attempt := k }
theorem inv_syncing (k : Nat) (l : SyncLine) (ts : List Turn) (h1 : 1 ≤ k) (h2 : k ≤ 15) : (syncing k l ts).Inv :=
  ⟨fun q h => (by cases h; decide), fun _ => rfl, rfl, fun h => (by cases h), fun h => (by cases h),
   fun p h => (by cases h; exact fun _ => ⟨h1, h2⟩)⟩
theorem witness_SyncNeverPassesSilently :
    ((idle [rx 0xAA]).seq = .idle ∧ answers (exec (.sync 0xAA) (idle [rx 0xAA]))) ∧
    ((syncing 0 (.y1 .entered) [rx 0xAA]).seq = .running (.sync 0xAA (.y1 .entered)) ∧
      answers (step (syncing 0 (.y1 .entered) [rx 0xAA]))) ∧
    ((syncing 2 (.y1 .repeated) [rx 0xAA]).Inv ∧ SyncLine.y1 .repeated ≠ .y1 .entered ∧
      answers (step (syncing 2 (.y1 .repeated) [rx 0xAA]))) ∧
    ((syncing 15 .y2 [wx]).seq = .running (.sync 0xAA .y2) ∧ (syncing 15 .y2 [wx]).Inv ∧ SyncLine.y2 ≠ .y1 .entered ∧
      answers (step (syncing 15 .y2 [wx]))) :=
  ⟨⟨by decide, ⟨_, rfl⟩⟩, ⟨rfl, ⟨_, rfl⟩⟩, ⟨inv_syncing _ _ _ (by decide) (by decide), by decide, ⟨_, rfl⟩⟩,
   ⟨rfl, inv_syncing _ _ _ (by decide) (by decide), by decide, ⟨_, rfl⟩⟩⟩
theorem witness_SetupCompletes :
    (idle (pulseTurns ++ missTurns (List.replicate 14 miss) ++ rx 0xAA :: missTurns [miss] ++ rx 0x55 ::
      [(0, 0)].map answer ++ [wx, wx, wx, wx])).seq = .idle ∧
    (List.replicate 14 miss).length < 15 ∧ (∀ m ∈ List.replicate 14 miss, m.1.2 ≠ 0xAA) ∧
    [miss].length < 15 ∧ (∀ m ∈ [miss], m.1.2 ≠ 0x55) ∧ ([(0, 0)] : List (Byte × Byte)).length =
      ([(0x30, 0x2D)] : List (Byte × Byte)).length ∧
    (idle (pulseTurns ++ missTurns (List.replicate 14 miss) ++ rx 0xAA :: missTurns [miss] ++ rx 0x55 ::
      [(0, 0)].map answer ++ [wx, wx, wx, wx])).env =
      pulseTurns ++ missTurns (List.replicate 14 miss) ++ answer (0, 0xAA) :: missTurns [miss] ++ answer (0, 0x55) ::
        [(0, 0)].map answer ++ answer (0, 0) :: answer (0, 0) :: answer (0, 0) :: answer (0, 0) :: [] :=
  ⟨rfl, by rw [List.length_replicate]; decide, fun m h => (by rw [List.eq_of_mem_replicate h]; decide), by decide,
    (by intro z h; fin_cases h; decide), rfl, rfl⟩
theorem witness_SetupHandshakeFailure :
    ((idle (pulseTurns ++ missTurns (List.replicate 15 miss))).seq = .idle ∧ (List.replicate 15 miss).length = 15 ∧
      (∀ m ∈ List.replicate 15 miss, m.1.2 ≠ 0xAA) ∧
      (idle (pulseTurns ++ missTurns (List.replicate 15 miss))).env =
        pulseTurns ++ missTurns (List.replicate 15 miss) ++ []) ∧
    ((List.replicate 14 miss).length < 15 ∧ (∀ m ∈ List.replicate 14 miss, m.1.2 ≠ 0xAA) ∧
      (∀ m ∈ List.replicate 15 miss, m.1.2 ≠ 0x55) ∧
      (idle (pulseTurns ++ missTurns (List.replicate 14 miss) ++ rx 0xAA :: missTurns (List.replicate 15 miss))).env =
        pulseTurns ++ missTurns (List.replicate 14 miss) ++ answer (0, 0xAA) :: missTurns (List.replicate 15 miss) ++ []) :=
  ⟨⟨rfl, List.length_replicate, fun m h => (by rw [List.eq_of_mem_replicate h]; decide), rfl⟩,
   by rw [List.length_replicate]; decide, fun m h => (by rw [List.eq_of_mem_replicate h]; decide),
   fun m h => (by rw [List.eq_of_mem_replicate h]; decide), rfl⟩
/-- `SETUP` of the empty Config at its last line. -/
def settingPower (ts : List Turn) : State := { running (.setup [] (.s5 .n4)) ts with setupDone := false }
theorem inv_settingPower (ts : List Turn) : (settingPower ts).Inv :=
  ⟨fun q h => (by cases h; decide), fun _ => rfl, rfl, fun h => (by cases h), fun h => (by cases h),
   fun p h => (by cases h; exact ⟨rfl, fun _ => rfl⟩)⟩
theorem inv_startingSetup (ts : List Turn) : (running (.setup [] (.s1 .p1)) ts).Inv :=
  ⟨fun q h => (by cases h; decide), fun _ => rfl, rfl, fun h => (by cases h), fun h => (by cases h),
   fun p h => (by cases h; exact ⟨rfl, fun h => absurd rfl h⟩)⟩
theorem witness_SetupEndsDoneOrFailed :
    ((idle [.line false]).seq = .idle ∧ ∃ t, exec (.setup []) (idle [.line false]) = .next t ∧ t.seq = .idle) ∧
    (∃ t, p1 = .next t ∧ t.seq = .idle ∧ t.setupDone = true) ∧
    ((settingPower [wx]).Inv ∧ (settingPower [wx]).seq = .running (.setup [] (.s5 .n4)) ∧
      (∀ rest, (settingPower [wx]).env ≠ .blockReset :: rest) ∧
      ∃ t, step (settingPower [wx]) = .next t ∧ t.seq = .idle ∧ t.setupDone = true) ∧
    ((running (.setup [] (.s1 .p1)) [.line false]).Inv ∧
      (∀ rest, (running (.setup [] (.s1 .p1)) [.line false]).env ≠ .blockReset :: rest) ∧
      ∃ t, step (running (.setup [] (.s1 .p1)) [.line false]) = .next t ∧ t.seq = .idle ∧ t.setupDone = false) :=
  ⟨⟨by decide, ⟨_, rfl, by decide⟩⟩, ⟨_, rfl, by decide, by decide⟩,
   ⟨inv_settingPower _, rfl, fun _ h => (by cases h), ⟨_, rfl, by decide, by decide⟩⟩,
   ⟨inv_startingSetup _, fun _ h => (by cases h), ⟨_, rfl, by decide, by decide⟩⟩⟩
theorem witness_SetupDoneWriters :
    (∃ t, step (running (.rstp .p1) [.line true]) = .next t ∧ t.setupDone ≠ (running (.rstp .p1) [.line true]).setupDone) ∧
    (∃ t, step (running (.setup [] (.s1 .p1)) [.line true]) = .next t ∧
      t.setupDone ≠ (running (.setup [] (.s1 .p1)) [.line true]).setupDone) ∧
    (∃ t, step (settingPower [wx]) = .next t ∧ t.setupDone ≠ (settingPower [wx]).setupDone ∧ t.setupDone = true) ∧
    (∃ t, step (ready [.blockReset]) = .next t ∧ t.setupDone ≠ (ready [.blockReset]).setupDone) :=
  ⟨⟨_, rfl, by decide⟩, ⟨_, rfl, by decide⟩, ⟨_, rfl, by decide, by decide⟩, ⟨_, rfl, by decide⟩⟩

/-! ### Mode and poll -/

theorem witness_ModeReplacesField :
    (idle [rx 0xE7, wx]).seq = .idle ∧ (idle [rx 0xE7, wx]).env = answer (0, 0xE7) :: answer (0, 0) :: [] := by decide
theorem witness_ModeFailures :
    ((idle [.board .err]).seq = .idle ∧ (idle [.board .err]).env = .board .err :: []) ∧
    ((lenient (idle [rx 0x04, .board .err])).seq = .idle ∧
      (lenient (idle [rx 0x04, .board .err])).env = answer (0, 0x04) :: .board .err :: []) := by decide
theorem witness_WaitfReturnsWhenSet :
    (bounded (idle [rx 0, rx 0, rx 0x80])).seq = .idle ∧
    (∀ n, (bounded (idle [rx 0, rx 0, rx 0x80])).params.pollLimit = some n → 2 < n) ∧
    (∀ z ∈ ([(0, 0), (0, 0)] : List (Byte × Byte)), z.2 &&& flagMask Config.rmDefault .modeReady = 0) ∧
    (0x80 : Byte) &&& flagMask Config.rmDefault .modeReady ≠ 0 ∧
    (bounded (idle [rx 0, rx 0, rx 0x80])).env = [(0, 0), (0, 0)].map answer ++ answer (0, 0x80) :: [] :=
  ⟨rfl, fun n h => (by cases h; decide), (by intro z h; fin_cases h <;> decide), by decide, rfl⟩
theorem witness_WaitfEndsWithError :
    ((bounded (idle [rx 0, rx 0, rx 0])).seq = .idle ∧
      (∀ z ∈ ([(0, 0), (0, 0), (0, 0)] : List (Byte × Byte)), z.2 &&& flagMask Config.rmDefault .modeReady = 0) ∧
      (bounded (idle [rx 0, rx 0, rx 0])).params.pollLimit = some ([(0, 0), (0, 0), (0, 0)] : List (Byte × Byte)).length ∧
      (bounded (idle [rx 0, rx 0, rx 0])).env = [(0, 0), (0, 0), (0, 0)].map answer ++ []) ∧
    ((bounded (idle [rx 0, rx 0, .board .err])).seq = .idle ∧
      (∀ n, (bounded (idle [rx 0, rx 0, .board .err])).params.pollLimit = some n → 2 < n) ∧
      (bounded (idle [rx 0, rx 0, .board .err])).env = [(0, 0), (0, 0)].map answer ++ .board .err :: []) ∧
    ((.t6 .e2, .t6w, .transmit, .packetSent) ∈ sendPolls ∧
      (∀ z ∈ ([(0, 0), (0, 0), (0, 0)] : List (Byte × Byte)), z.2 &&& flagMask Config.rmDefault .packetSent = 0) ∧
      (bounded (running (.send 2 [] (.t6 .e2)) [wx, rx 0, rx 0, rx 0])).seq = .running (.send 2 [] (.t6 .e2)) ∧
      (bounded (running (.send 2 [] (.t6 .e2)) [wx, rx 0, rx 0, rx 0])).env =
        answer (0, 0) :: [(0, 0), (0, 0), (0, 0)].map answer ++ [] ∧
      (bounded (running (.send 2 [] (.t6 .e2)) [wx, .board .err])).env =
        answer (0, 0) :: ([] : List (Byte × Byte)).map answer ++ .board .err :: [] ∧
      (∀ n, (bounded (running (.send 2 [] (.t6 .e2)) [wx, rx 0, rx 0, .irq])).params.pollLimit = some n → 2 < n) ∧
      (bounded (running (.send 2 [] (.t6 .e2)) [wx, rx 0, rx 0, .irq])).env =
        answer (0, 0) :: [(0, 0), (0, 0)].map answer ++ [.irq]) :=
  ⟨⟨rfl, (by intro z h; fin_cases h <;> decide), rfl, rfl⟩, ⟨rfl, fun n h => (by cases h; decide), rfl⟩,
   .tail _ (.head _), (by intro z h; fin_cases h <;> decide), rfl, rfl, rfl, fun n h => (by cases h; decide), rfl⟩
theorem witness_WaitfSpins :
    (idle [rx 0, .irq]).seq = .idle ∧ (idle [rx 0, .irq]).params.pollLimit = none ∧
    (∀ z ∈ ([(0, 0)] : List (Byte × Byte)), z.2 &&& flagMask Config.rmDefault .packetSent = 0) ∧
    othersNext [.irq] = true ∧ (idle [rx 0, .irq]).env = [(0, 0)].map answer ++ [.irq] :=
  ⟨rfl, rfl, (by intro z h; fin_cases h; decide), rfl, rfl⟩
theorem witness_WaitfNeverEndsUnset :
    ((idle [rx 0x80]).seq = .idle ∧ answers (exec (.waitf .modeReady) (idle [rx 0x80]))) ∧
    ((running (.waitf .modeReady .entered) [rx 0x80]).seq = .running (.waitf .modeReady .entered) ∧
      answers (step (running (.waitf .modeReady .entered) [rx 0x80]))) ∧
    ((running (.waitf .modeReady .repeated) [rx 0x80]).seq = .running (.waitf .modeReady .repeated) ∧
      answers (step (running (.waitf .modeReady .repeated) [rx 0x80]))) :=
  ⟨⟨by decide, ⟨_, rfl⟩⟩, ⟨rfl, ⟨_, rfl⟩⟩, rfl, ⟨_, rfl⟩⟩

/-! ### Transmit and receive -/

theorem witness_SendCompletes :
    let ts := [answer (0, 0x10), answer (0, 0)] ++ ([] : List (Byte × Byte)).map answer ++ [answer (0, 0x80), answer (0, 0),
      answer (0, 0), answer (0, 0), answer (0, 0), answer (0, 0), answer (0, 0), .board (.ok [0, 0, 0, 0, 0]),
      answer (0, 4), answer (0, 0)] ++ [(0, 0)].map answer ++ [answer (0, 8), answer (0, 0x0C), answer (0, 0)] ++
      ([] : List (Byte × Byte)).map answer ++ [answer (0, 0x80), answer (0, 0), answer (0, 0), answer (0, 0), answer (0, 0)] ++ []
    let s := bounded (ready ts)
    s.seq = .idle ∧ s.setupDone = true ∧ s.txPower = some 13 ∧ ([] : List Byte).length ≤ 252 ∧
    (∀ n, s.params.pollLimit = some n → 0 < n ∧ 1 < n ∧ 0 < n) ∧
    (∀ z ∈ ([(0, 0)] : List (Byte × Byte)), z.2 &&& s.params.regMap.mPacketSent = 0) ∧
    (0x80 : Byte) &&& s.params.regMap.mModeReady ≠ 0 ∧ (8 : Byte) &&& s.params.regMap.mPacketSent ≠ 0 ∧
    ([0, 0, 0, 0, 0] : List Byte).length = ([] : List Byte).length + 5 ∧ s.env = ts :=
  ⟨rfl, rfl, rfl, by decide, fun n h => (by cases h; decide), (by intro z h; fin_cases h; decide), by decide, by decide,
    by decide, rfl⟩
/-- The longest payload. -/
theorem witness_SendCompletes_longest :
    (List.replicate 252 (0 : Byte)).length ≤ 252 ∧
    (List.replicate 257 (0 : Byte)).length = (List.replicate 252 (0 : Byte)).length + 5 := by
  simp only [List.length_replicate]; decide
theorem witness_ModeAndSendFrame :
    answers (exec (.mode .receive) (idle [rx 0])) ∧ answers (exec (.waitf .packetSent) (idle [rx 0])) ∧
    answers (exec (.send 2 []) (ready [rx 0])) := ⟨⟨_, rfl⟩, ⟨_, rfl⟩, ⟨_, rfl⟩⟩
theorem witness_RxsArms :
    ((ready [.tick, rx 0xFB, wx, rx 4, wx, wx, wx]).seq = .idle ∧
      (ready [.tick, rx 0xFB, wx, rx 4, wx, wx, wx]).setupDone = true ∧ othersNext [] = true ∧
      (0xFB : Byte) &&& Config.rmDefault.mPayloadReady = 0 ∧
      (ready [.tick, rx 0xFB, wx, rx 4, wx, wx, wx]).env = .tick :: answer (0, 0xFB) :: answer (0, 0) :: answer (0, 4) ::
        answer (0, 0) :: answer (0, 0) :: answer (0, 0) :: []) ∧
    ((4 : Byte) &&& Config.rmDefault.mPayloadReady ≠ 0 ∧
      (ready [.tick, rx 4, rx 2, wx, wx, rx 4, wx, wx, wx]).env = .tick :: answer (0, 4) :: answer (0, 2) :: answer (0, 0) ::
        answer (0, 0) :: answer (0, 4) :: answer (0, 0) :: answer (0, 0) :: answer (0, 0) :: []) := by decide
theorem witness_WaitConsumesLatch :
    (receiving .w2 [.tick]).seq = .running (.rxs .w2) ∧ (receiving .w2 [.tick]).env = .tick :: [] ∧
    (receiving .w2 [.tick]).evtPending = false ∧
    ({ receiving .w2 [.tick] with evtPending := true } : State).evtPending = true := by decide
/-- The shortest and the longest legal header. -/
theorem witness_RxsDrainsAndEmits :
    ((receiving .l3 [rx 0x50, .board (.ok [0, 3, 1, 2, 0]), .board (.ok [0]), .accept]).seq = .running (.rxs .l3) ∧
      3 ≤ (3 : Byte).toNat ∧ ([] : List Byte).length = (3 : Byte).toNat - 3 ∧
      (receiving .l3 [rx 0x50, .board (.ok [0, 3, 1, 2, 0]), .board (.ok [0]), .accept]).env =
        answer (0, 0x50) :: .board (.ok [0, 3, 1, 2, 0]) :: .board (.ok (0 :: [])) :: .accept :: []) ∧
    3 ≤ (255 : Byte).toNat ∧ (List.replicate 252 (0 : Byte)).length = (255 : Byte).toNat - 3 :=
  ⟨by decide, by decide, by rw [List.length_replicate]; decide⟩
theorem witness_RxsUnderLengthHeader :
    (receiving .l4 [.board (.ok [0, 2, 1, 2, 0])]).seq = .running (.rxs .l4) ∧
    (receiving .l4 [.board (.ok [0, 2, 1, 2, 0])]).errSlot = none ∧ (2 : Byte).toNat < 3 ∧ (0 : Byte).toNat < 3 ∧
    (receiving .l4 [.board (.ok [0, 2, 1, 2, 0])]).env = .board (.ok [0, 2, 1, 2, 0]) :: [] := by decide
theorem witness_RxsErrorEndsOnce :
    (receiving .a2 [.board .err]).seq = .running (.rxs .a2) ∧ Pos.isPoke (.rxs .a2) = false ∧
    (receiving .a2 [.board .err]).outstanding = some [0xA5, 0x40] ∧
    (receiving .a2 [.board .err]).env = .board .err :: [] := by decide
theorem witness_RxsNeverOk :
    ((ready [.tick, .board .err]).seq = .idle ∧ answers (exec .rxs (ready [.tick, .board .err]))) ∧
    ((receiving .l4 [.board .err]).seq = .running (.rxs .l4) ∧ answers (step (receiving .l4 [.board .err]))) ∧
    ((receiving .l7 [.accept]).seq = .running (.rxs .l7) ∧ answers (step (receiving .l7 [.accept]))) :=
  ⟨⟨by decide, ⟨_, rfl⟩⟩, ⟨rfl, ⟨_, rfl⟩⟩, ⟨rfl, ⟨_, rfl⟩⟩⟩
theorem witness_RxsFrame :
    answers (exec .rxs (ready [.tick, .board .err])) ∧
    ((receiving .l3 [rx 41]).seq = .running (.rxs .l3) ∧ (∀ rest, (receiving .l3 [rx 41]).env ≠ .blockReset :: rest) ∧
      answers (step (receiving .l3 [rx 41]))) ∧
    ((receiving .l7 [.accept]).seq = .running (.rxs .l7) ∧ (∀ rest, (receiving .l7 [.accept]).env ≠ .blockReset :: rest) ∧
      answers (step (receiving .l7 [.accept]))) :=
  ⟨⟨_, rfl⟩, ⟨rfl, fun _ h => (by cases h), ⟨_, rfl⟩⟩, ⟨rfl, fun _ h => (by cases h), ⟨_, rfl⟩⟩⟩
theorem witness_OfferWaitsForHost :
    ((receiving .l7 [.accept]).seq = .running (.rxs .l7) ∧ (receiving .l7 [.accept]).env = .accept :: [] ∧
      Turn.accept.isSequencer = true) ∧
    ((receiving .l7 [.tick]).env = .tick :: [] ∧ Turn.tick.isSequencer = true) := by decide
theorem witness_RssiReadAndTruncated :
    ((receiving .l3 [rx 41]).seq = .running (.rxs .l3) ∧ (receiving .l3 [rx 41]).env = answer (0, 41) :: []) ∧
    (({ receiving .w2 [.tick, rx 255] with evtPending := true } : State).evtPending = true ∧
      (receiving .w2 [.tick, rx 255]).env = .tick :: answer (0, 255) :: []) := by decide
theorem witness_ArbiterRule : (receiving .w2 [.irq]).env = .irq :: [] ∧ (idle [.irq]).env = .irq :: [] := by decide
theorem witness_LatchClearedOnlyThere :
    (takeLine .tick { receiving .w2 [] with evtPending := true }).evtPending = false ∧
    (takeLine .tick { receiving .a0 [] with evtPending := true }).evtPending = false ∧
    (takeLine (.board .err) { receiving .a1 [] with evtPending := true }).evtPending = false := by decide

/-! ### Commands, refusals, abort -/

theorem witness_DecodeEncode :
    Instr.wf Config.defaultParams (.fifoFrame 3 2 1 0 []) = true ∧ Instr.wf Config.defaultParams (.busRN 0x7F 0) = true ∧
    Instr.wf Config.defaultParams (.send 2 [1]) = true := by decide
theorem witness_DecodeAcceptsOnlyEncodings :
    decode Config.defaultParams .cmd [0x01, 0x2F] = .instr (.rd 0x2F) ∧
    decode Config.defaultParams .bus [0x80] = .instr (.busWN 0 []) ∧
    decode Config.defaultParams .fifo [3, 2, 1, 0] = .instr (.fifoFrame 3 2 1 0 []) := by decide
theorem witness_IllegalCommandRefused :
    ((idle [.cmd 0x99 []]).seq = .idle ∧ (idle [.cmd 0x99 []]).env = .cmd 0x99 [] :: [] ∧
      (0x99 : Byte) ∉ ([0x01, 0x02, 0x03, 0x04, 0x05, 0x10, 0x20, 0x21, 0x22, 0x30, 0x31, 0x40, 0x50] : List Byte)) ∧
    ((idle [.cmd 0x30 [3]]).env = .cmd 0x30 [3] :: [] ∧ 2 < (3 : Byte).toNat) ∧
    ((idle [.cmd 0x31 [2]]).env = .cmd 0x31 [2] :: [] ∧ 1 < (2 : Byte).toNat) ∧
    ((idle [.cmd 0x02 [0x2F]]).env = .cmd 0x02 [0x2F] :: [] ∧ Opcode.ofByte 0x02 = some .wr ∧
      [(0x2F : Byte)].length ≠ Opcode.wr.operandCount [0x2F]) := by decide
theorem decode_send (dst n : Byte) (payload : List Byte) (h : payload.length = n.toNat) :
    decodeCmd 0x40 (dst :: n :: payload) = .instr (.send dst payload) := by
  show operandsCounted .send (dst :: n :: payload) = _
  simp [operandsCounted, h]
theorem witness_CommandExaminedInOrder :
    ((receiving .w2 [.cmd 0x99 []]).env = .cmd 0x99 [] :: [] ∧ (receiving .w2 [.cmd 0x99 []]).seq = .running (.rxs .w2)) ∧
    ((idle [.cmd 0x99 []]).env = .cmd 0x99 [] :: [] ∧ (idle [.cmd 0x99 []]).seq = .idle ∧
      decodeCmd 0x99 [] = .reject .illegalOpcode) ∧
    ((idle [.cmd 0x50 []]).env = .cmd 0x50 [] :: [] ∧ (idle [.cmd 0x50 []]).setupDone = false ∧
      decodeCmd 0x50 [] = .instr .rxs) ∧
    ((ready [.cmd 0x50 []]).setupDone = true ∧ (ready [.cmd 0x50 []]).seq = .idle) ∧
    ((ready [.cmd 0x40 (2 :: 253 :: List.replicate 253 0)]).env = .cmd 0x40 (2 :: 253 :: List.replicate 253 0) :: [] ∧
      (ready [.cmd 0x40 (2 :: 253 :: List.replicate 253 0)]).seq = .idle ∧ (ready []).setupDone = true ∧
      decodeCmd 0x40 (2 :: 253 :: List.replicate 253 0) = .instr (.send 2 (List.replicate 253 0)) ∧
      252 < (List.replicate 253 (0 : Byte)).length) ∧
    ((ready [.cmd 0x40 (2 :: 252 :: List.replicate 252 0)]).env = .cmd 0x40 (2 :: 252 :: List.replicate 252 0) :: [] ∧
      decodeCmd 0x40 (2 :: 252 :: List.replicate 252 0) = .instr (.send 2 (List.replicate 252 0)) ∧
      (List.replicate 252 (0 : Byte)).length ≤ 252) :=
  ⟨by decide, by decide, by decide, by decide, ⟨rfl, rfl, rfl, decode_send _ _ _ (by rw [List.length_replicate]; decide),
   by rw [List.length_replicate]; decide⟩, rfl, decode_send _ _ _ (by rw [List.length_replicate]; decide),
   by rw [List.length_replicate]⟩
theorem witness_StepRunsDecoded :
    (idle [.cmd 0x01 [0x2F], rx 5]).seq = .idle ∧ (idle [.cmd 0x01 [0x2F], rx 5]).env = .cmd 0x01 [0x2F] :: [rx 5] ∧
    decodeCmd 0x01 [0x2F] = .instr (.rd 0x2F) ∧ answers (exec (.rd 0x2F) (idle [rx 5])) ∧
    (running (.rd 0x2F) [rx 5]).seq = .running (.rd 0x2F) ∧ (running (.rd 0x2F) [rx 5]).env = rx 5 :: [] ∧
    (rx 5).isSequencer = true := ⟨by decide, by decide, by decide, ⟨_, rfl⟩, by decide, by decide, by decide⟩
theorem witness_OneResponse :
    (Instr.rd 0x2F).format = .cmd ∧ (idle [rx 5]).seq = .idle ∧
    (∃ t, exec (.rd 0x2F) (idle [rx 5]) = .next t ∧ t.seq = .idle) ∧
    (∃ t, exec (.rd 0x2F) (idle []) = .next t ∧ t.seq = .running (.rd 0x2F)) ∧
    ((receiving .l4 [.board .err]).seq = .running (.rxs .l4) ∧ (receiving .l4 [.board .err]).env = .board .err :: [] ∧
      (Turn.board .err).isSequencer = true ∧ ∃ t, step (receiving .l4 [.board .err]) = .next t ∧ t.seq = .idle) ∧
    ((receiving .l7 [.accept]).env = .accept :: [] ∧ Turn.accept.isSequencer = true ∧
      ∃ t, step (receiving .l7 [.accept]) = .next t ∧ t.seq = .running (.rxs .a1)) :=
  ⟨by decide, by decide, ⟨_, rfl, by decide⟩, ⟨_, rfl, by decide⟩, ⟨rfl, rfl, rfl, ⟨_, rfl, by decide⟩⟩,
   ⟨rfl, rfl, ⟨_, rfl, by decide⟩⟩⟩
/-- The invariant at a position that relies on no register. -/
theorem inv_running_rd (a : Byte) (ts : List Turn) : (running (.rd a) ts).Inv :=
  ⟨fun q h => (by cases h; decide), fun _ => rfl, rfl, fun h => (by cases h), fun h => (by cases h),
   fun p h => (by cases h; trivial)⟩
theorem inv_running_mode (m : OpMode) (l : EditLine) (ts : List Turn) : (running (.mode m l) ts).Inv :=
  ⟨fun q h => (by cases h; decide), fun _ => rfl, rfl, fun h => (by cases h), fun h => (by cases h),
   fun p h => (by cases h; trivial)⟩
theorem witness_BusErrorEndsOperation :
    ((running (.rd 0x2F) [.board .err]).Inv ∧ (running (.rd 0x2F) [.board .err]).outstanding = some [0x2F, 0x00] ∧
      Pos.isPoke (.rd 0x2F) = false ∧ (running (.rd 0x2F) [.board .err]).env = .board .err :: []) ∧
    ((running (.mode .receive .e1) [.board .err]).Inv ∧
      (running (.mode .receive .e1) [.board .err]).params.pokePolicy = .strict ∧
      (running (.mode .receive .e1) [.board .err]).outstanding = some [0x01, 0x00]) :=
  ⟨⟨inv_running_rd _ _, by decide, by decide, by decide⟩, inv_running_mode _ _ _, by decide, by decide⟩
/-- A failed read of an edit, a line inside a recipe, and the last line of an operation. -/
theorem witness_BestEffortDiscards :
    ((lenient (running (.mode .receive .e1) [.board .err])).seq = .running (.mode .receive .e1) ∧
      (lenient (running (.mode .receive .e1) [.board .err])).outstanding = some [0x01, 0x00] ∧
      (lenient (running (.mode .receive .e1) [.board .err])).params.pokePolicy = .bestEffort ∧
      Pos.isPoke (.mode .receive .e1) = true ∧
      (lenient (running (.mode .receive .e1) [.board .err])).env = .board .err :: []) ∧
    ((lenient (running (.send 2 [] (.t1 .e1)) [.board .err])).outstanding = some [0x01, 0x00] ∧
      Pos.isPoke (.send 2 [] (.t1 .e1)) = true) ∧
    ((lenient (running (.pwr 20 .h3) [.board .err])).outstanding = some [0xDA, 0x5D] ∧ Pos.isPoke (.pwr 20 .h3) = true) ∧
    ((lenient (running (.send 2 [] (.t7p .n4)) [.board .err])).outstanding = some [0x93, 0x1A] ∧
      Pos.isPoke (.send 2 [] (.t7p .n4)) = true) := by decide

/-! ### Whole-machine statements -/

/-- A transfer, a reset-line setting and nothing outstanding. -/
theorem witness_BlockResetStops :
    ((receiving .a1 [.blockReset]).env = .blockReset :: [] ∧ (receiving .a1 [.blockReset]).outstanding = some [0x28, 0x00]) ∧
    ((running (.rstp .p3) [.blockReset]).env = .blockReset :: [] ∧
      (running (.rstp .p3) [.blockReset]).settingReset = some false) ∧
    ((receiving .w2 [.blockReset]).env = .blockReset :: [] ∧ (receiving .w2 [.blockReset]).outstanding = none ∧
      (receiving .w2 [.blockReset]).settingReset = none) := by decide
theorem witness_ParametersNeverWritten : answers (step (receiving .a1 [.blockReset])) := ⟨_, rfl⟩
theorem witness_InvKept : (running (.rd 0x2F) [rx 5]).Inv ∧ answers (step (running (.rd 0x2F) [rx 5])) :=
  ⟨inv_running_rd _ _, ⟨_, rfl⟩⟩
theorem witness_BelievedModeKept :
    (running (.mode .receive .e2) [wx]).Inv ∧
    opmodeApart (running (.mode .receive .e2) [wx]).params.regMap = true ∧
    (running (.mode .receive .e2) [wx]).dutyKept ∧ (running (.mode .receive .e2) [wx]).believes ∧
    ∃ t, step (running (.mode .receive .e2) [wx]) = .next t ∧ t.modeShadow = some .receive :=
  ⟨inv_running_mode _ _ _, by decide, ⟨fun p h => (by cases h; rfl), fun _ _ _ _ h => (by cases h)⟩,
   ⟨fun m h => (by cases h), fun _ _ _ => rfl⟩, ⟨_, rfl, by decide⟩⟩
theorem witness_AnswersAsLongAsFrames :
    (∀ tx rx, Event.transfer tx (some rx) ∈ (running (.rd 0x2F) [answer (0, 5)]).trace → rx.length = tx.length) ∧
    answers (step (running (.rd 0x2F) [answer (0, 5)])) := ⟨fun _ _ h => (by cases h), ⟨_, rfl⟩⟩

end Sys2Proof.Tests
end

section
/-! PROOFS of the family `00_scope.md`: every outstanding `Transfer` is a bus frame (R80), the read frame rows are one
transaction each (R82, R84), and the run of a command is its acceptance and one step for each line (R13, R45). -/

namespace Sys2Proof.Machine

/-! ### The transactions of the lines are bus frames (R80) -/

/-- `tx` has one of the four bus frame forms; BUS-R1 and BUS-W1 are the bursts of one byte (R80, R82 to R85). -/
def IsBusFrame (r : RegMap) (tx : List Byte) : Prop :=
  ∃ a : Byte, (∃ n : Nat, tx = frameRN r a n) ∨ ∃ data : List Byte, tx = frameWN r a data

theorem isBusFrame_frameRN (r : RegMap) (a : Byte) (n : Nat) : IsBusFrame r (frameRN r a n) := ⟨a, .inl ⟨n, rfl⟩⟩

theorem isBusFrame_frameWN (r : RegMap) (a : Byte) (data : List Byte) : IsBusFrame r (frameWN r a data) :=
  ⟨a, .inr ⟨data, rfl⟩⟩

theorem isBusFrame_frameR1 (r : RegMap) (a : Byte) : IsBusFrame r (frameR1 r a) := isBusFrame_frameRN r a 1

theorem isBusFrame_frameW1 (r : RegMap) (a v : Byte) : IsBusFrame r (frameW1 r a v) := isBusFrame_frameWN r a [v]

/-- Where the line is a `Transfer`, it is one of a bus frame. -/
def Line.SendsFrame (r : RegMap) : Line → Prop
  | .transfer tx _ _ => IsBusFrame r tx
  | .setReset _ _ _ | .hold _ _ | .free _ | .wait _ | .offer _ _ => True

@[simp] theorem sendsFrame_after (r : RegMap) (pre : State → State) (l : Line) :
    (l.after pre).SendsFrame r ↔ l.SendsFrame r := by cases l <;> rfl

@[simp] theorem sendsFrame_readLine (r : RegMap) (a : Byte) (ok fail) : (readLine r a ok fail).SendsFrame r :=
  isBusFrame_frameR1 r a

@[simp] theorem sendsFrame_writeLine (r : RegMap) (a v : Byte) (ok fail) : (writeLine r a v ok fail).SendsFrame r :=
  isBusFrame_frameW1 r a v

@[simp] theorem sendsFrame_burstReadLine (r : RegMap) (a : Byte) (n : Nat) (ok fail) :
    (burstReadLine r a n ok fail).SendsFrame r := isBusFrame_frameRN r a n

@[simp] theorem sendsFrame_burstWriteLine (r : RegMap) (a : Byte) (data : List Byte) (ok fail) :
    (burstWriteLine r a data ok fail).SendsFrame r := isBusFrame_frameWN r a data

@[simp] theorem sendsFrame_editLine (s : State) (a : Byte) (fn at2 ok fail) (l : EditLine) :
    (editLine s a fn at2 ok fail l).SendsFrame s.params.regMap := by cases l <;> simp [editLine]

@[simp] theorem sendsFrame_pokeEditLine (s : State) (a : Byte) (fn at2 ok skip fail) (l : EditLine) :
    (pokeEditLine s a fn at2 ok skip fail l).SendsFrame s.params.regMap := sendsFrame_editLine ..

@[simp] theorem sendsFrame_pokeWriteLine (r : RegMap) (a v : Byte) (ok fail) :
    (pokeWriteLine r a v ok fail).SendsFrame r := sendsFrame_writeLine ..

@[simp] theorem sendsFrame_recipeLine (p : Params) (d : Int) (goto ok fail) (l : RecipeLine) :
    (recipeLine p d goto ok fail l).SendsFrame p.regMap := sendsFrame_pokeWriteLine ..

@[simp] theorem sendsFrame_powerLine (s : State) (d : Int) (goto ok fail) (l : RecipeLine) :
    (powerLine s d goto ok fail l).SendsFrame s.params.regMap := by simp [powerLine]

@[simp] theorem sendsFrame_pulseLine (r : RegMap) (goto ok fail) (l : PulseLine) :
    (pulseLine goto ok fail l).SendsFrame r := by cases l <;> trivial

@[simp] theorem sendsFrame_syncLine (r : RegMap) (sentinel : Byte) (goto ok fail) (l : SyncLine) :
    (syncLine r sentinel goto ok fail l).SendsFrame r := by cases l <;> simp [syncLine]

@[simp] theorem sendsFrame_pollLine (r : RegMap) (f : Flag) (h : LoopHead) (again ok fail) :
    (pollLine r f h again ok fail).SendsFrame r := by simp [pollLine]

@[simp] theorem sendsFrame_modeLine (s : State) (m : OpMode) (at2 ok fail) (l : EditLine) :
    (modeLine s m at2 ok fail l).SendsFrame s.params.regMap := by cases l <;> simp [modeLine]

theorem sendsFrame_lineSetup (s : State) (cfg : List (Byte × Byte)) (l : SetupLine) :
    (lineSetup s cfg l).SendsFrame s.params.regMap := by cases l <;> simp [lineSetup]

theorem sendsFrame_lineSend (s : State) (dst : Byte) (payload : List Byte) (l : SendLine) :
    (lineSend s dst payload l).SendsFrame s.params.regMap := by cases l <;> simp [lineSend]

/-- `A0`, `W2` and `L7` make no transaction. -/
theorem sendsFrame_lineRxs (s : State) (l : RxsLine) : (lineRxs s l).SendsFrame s.params.regMap := by
  cases l with
  | a0 | w2 | l7 => trivial
  | _ => simp [lineRxs]

/-- Every line of every operation is built from the shared lines, so its `Transfer` is a bus frame (R80). -/
theorem sendsFrame_lineAt (s : State) (p : Pos) : (lineAt s p).SendsFrame s.params.regMap := by
  cases p <;> dsimp only [lineAt, lineRd, lineWr, lineEd, lineBrd, lineBwr, linePwr, lineRstp, lineSync, lineMode, lineWaitf]
  case rd a => exact sendsFrame_readLine ..
  case wr a v => exact sendsFrame_writeLine ..
  case ed a clr set l => exact sendsFrame_editLine ..
  case brd a n => exact sendsFrame_burstReadLine ..
  case bwr a bytes => exact sendsFrame_burstWriteLine ..
  case pwr q l => exact sendsFrame_powerLine ..
  case rstp l => exact sendsFrame_pulseLine ..
  case sync sentinel l => exact sendsFrame_syncLine ..
  case setup cfg l => exact sendsFrame_lineSetup ..
  case mode m l => exact sendsFrame_modeLine ..
  case waitf f h => exact sendsFrame_pollLine ..
  case send dst payload l => exact sendsFrame_lineSend ..
  case rxs l => exact sendsFrame_lineRxs ..

/-- What is outstanding is the `Transfer` of the line at the position. -/
theorem lineAt_of_outstanding {s : State} {tx : List Byte} (h : s.outstanding = some tx) :
    ∃ p ok err, s.seq = .running p ∧ lineAt s p = .transfer tx ok err := by
  unfold State.outstanding at h
  split at h
  · cases h
  · rename_i p hs
    split at h
    · rename_i ok err hl
      cases h
      exact ⟨p, ok, err, hs, hl⟩
    all_goals cases h

/-- Settles O7: the outstanding `Transfer` is the line's, and every line's is a bus frame. -/
theorem transfersAreBusFrames : Obligations.TransfersAreBusFrames := by
  intro s tx h
  obtain ⟨p, ok, err, -, hl⟩ := lineAt_of_outstanding h
  have hf := sendsFrame_lineAt s p
  rw [hl] at hf
  exact hf

/-! ### The read frame rows (R82, R84) -/

/-- The row BUS-RN is one `Transfer` of its frame; an answer that comes next and fits completes it (R84, log 8). -/
theorem exec_busRN_answered {a : Byte} {n : Nat} {s : State} {ans : Answer} {rest : List Turn}
    (henv : s.env = .board ans :: rest) (hfits : ans.fits (frameRN s.params.regMap a n) = true) :
    exec (.busRN a n) s = .next ((s.withEnv rest).transact (frameRN s.params.regMap a n) ans) :=
  transferNow_answered henv hfits

/-- The row BUS-R1 is the row BUS-RN with n = 1 (R84). -/
theorem exec_busR1_eq_busRN (a : Byte) (s : State) : exec (.busR1 a) s = exec (.busRN a 1) s := rfl

/-- Settles O8: the answer that comes next fits the frame, so the row's one transaction completes. -/
theorem busReadFrames : Obligations.BusReadFrames := by
  intro s a n rest
  refine ⟨exec_busR1_eq_busRN a s, fun rx hlen henv => ?_, fun henv => ?_⟩
  · have hfits : (Answer.ok rx).fits (frameRN s.params.regMap a n) = true := by simp [hlen]
    exact exec_busRN_answered henv hfits
  · exact exec_busRN_answered henv (fits_err _)

/-! ### No line writes the parameters or the turns still to come -/

/-- `f` writes neither the parameters nor the turns still to come. -/
def LeavesOutside (f : State → State) : Prop := ∀ u, (f u).params = u.params ∧ (f u).env = u.env

theorem LeavesOutside.comp {f g : State → State} (hg : LeavesOutside g) (hf : LeavesOutside f) :
    LeavesOutside fun u => g (f u) := fun u =>
  ⟨(hg (f u)).1.trans (hf u).1, (hg (f u)).2.trans (hf u).2⟩

theorem LeavesOutside.ite {c : State → Prop} [DecidablePred c] {f g : State → State} (hf : LeavesOutside f)
    (hg : LeavesOutside g) : LeavesOutside fun u => if c u then f u else g u := fun u => by
  by_cases h : c u
  · simpa [h] using hf u
  · simpa [h] using hg u

theorem leavesOutside_raise (e : Err) : LeavesOutside (State.raise e) := fun _ => ⟨rfl, rfl⟩

theorem leavesOutside_raiseSetup (e : Err) : LeavesOutside (State.raiseSetup e) := fun _ => ⟨rfl, rfl⟩

theorem leavesOutside_raiseRxs (e : Err) : LeavesOutside (State.raiseRxs e) := fun _ => ⟨rfl, rfl⟩

theorem leavesOutside_goto (p : Pos) : LeavesOutside fun t => t.goto p := fun _ => ⟨rfl, rfl⟩

theorem leavesOutside_finish (value : List Byte) : LeavesOutside fun t => t.finish value := fun _ => ⟨rfl, rfl⟩

theorem leavesOutside_gotoConfig (cfg : List (Byte × Byte)) : LeavesOutside (State.gotoConfig cfg) :=
  .ite (c := fun u => u.cfg.length = 0) (fun _ => ⟨rfl, rfl⟩) (fun _ => ⟨rfl, rfl⟩)

theorem leavesOutside_finishSetup : LeavesOutside State.finishSetup := fun _ => ⟨rfl, rfl⟩

theorem leavesOutside_checkHeader : LeavesOutside State.checkHeader :=
  .ite (c := fun u => u.hTotal.toNat < Config.headerLen) (fun _ => ⟨rfl, rfl⟩) (fun _ => ⟨rfl, rfl⟩)

theorem leavesOutside_before {above : State → State} (h : LeavesOutside above) (head : LoopHead) :
    LeavesOutside (head.before above) := by
  cases head with
  | entered => exact h
  | repeated => exact fun _ => ⟨rfl, rfl⟩

/-- Whatever completes the line writes neither the parameters nor the turns still to come. -/
def Line.LeavesOutside : Line → Prop
  | .transfer _ ok err => (∀ d, Machine.LeavesOutside (ok d)) ∧ ∀ e, Machine.LeavesOutside (err e)
  | .setReset _ ok err => Machine.LeavesOutside ok ∧ ∀ e, Machine.LeavesOutside (err e)
  | .hold _ ok | .free ok | .wait ok | .offer _ ok => Machine.LeavesOutside ok

theorem Line.LeavesOutside.complete {l : Line} (h : l.LeavesOutside) (t : Turn) (s : State) :
    (l.complete t s).params = s.params ∧ (l.complete t s).env = s.env := by
  refine complete_keeps (P := fun u => u.params = s.params ∧ u.env = s.env) ⟨rfl, rfl⟩ ?_ t
  cases l with
  | transfer tx ok err => exact ⟨fun rx _ => h.1 (rx.drop 1) _, h.2 _ _⟩
  | setReset level ok err => exact ⟨h.1 _, h.2 _ _⟩
  | hold micros ok => exact h _
  | free ok => exact h _
  | wait ok => exact fun _ => h _
  | offer p ok => exact h _

theorem Line.LeavesOutside.after {l : Line} {pre : State → State} (h : l.LeavesOutside)
    (hpre : Machine.LeavesOutside pre) : (l.after pre).LeavesOutside := by
  cases l with
  | transfer tx ok err => exact ⟨fun d => (h.1 d).comp hpre, fun e => (h.2 e).comp hpre⟩
  | setReset level ok err => exact ⟨h.1.comp hpre, fun e => (h.2 e).comp hpre⟩
  | hold micros ok => exact h.comp hpre
  | free ok => exact h.comp hpre
  | wait ok => exact h.comp hpre
  | offer p ok => exact h.comp hpre

theorem leavesOutside_advance {goto : RecipeLine → State → State} {ok : State → State}
    (hgoto : ∀ l, LeavesOutside (goto l)) (hok : LeavesOutside ok) (l : RecipeLine) :
    LeavesOutside (l.advance goto ok) := fun u => by
  unfold RecipeLine.advance
  split
  · exact hgoto _ u
  · exact hok u

/-! The shared lines: each keeps to what its continuations write. -/

section
variable {fail : Err → State → State} (hfail : ∀ e, LeavesOutside (fail e))
include hfail

theorem leavesOutside_tryErr {skip : State → State} (hskip : LeavesOutside skip) (e : Err) :
    LeavesOutside (tryErr skip fail e) := fun u => by
  rcases tryErr_cases skip fail e u with h | h <;> rw [h]
  · exact hfail e u
  · exact hskip u

theorem leavesOutside_readLine (r : RegMap) (a : Byte) {ok : Byte → State → State} (hok : ∀ v, LeavesOutside (ok v)) :
    (readLine r a ok fail).LeavesOutside := ⟨fun d => hok (d.headD 0), hfail⟩

theorem leavesOutside_writeLine (r : RegMap) (a v : Byte) {ok : State → State} (hok : LeavesOutside ok) :
    (writeLine r a v ok fail).LeavesOutside := ⟨fun _ => hok, hfail⟩

theorem leavesOutside_burstReadLine (r : RegMap) (a : Byte) (n : Nat) {ok : List Byte → State → State}
    (hok : ∀ d, LeavesOutside (ok d)) : (burstReadLine r a n ok fail).LeavesOutside := ⟨hok, hfail⟩

theorem leavesOutside_burstWriteLine (r : RegMap) (a : Byte) (bytes : List Byte) {ok : State → State}
    (hok : LeavesOutside ok) : (burstWriteLine r a bytes ok fail).LeavesOutside := ⟨fun _ => hok, hfail⟩

theorem leavesOutside_editLine (s : State) (a : Byte) (fn : Byte → Byte) {at2 ok : State → State}
    (hat2 : LeavesOutside at2) (hok : LeavesOutside ok) (l : EditLine) :
    (editLine s a fn at2 ok fail l).LeavesOutside := by
  cases l with
  | e1 => exact leavesOutside_readLine hfail _ _ fun v => hat2.comp (f := State.latchEdit v) fun _ => ⟨rfl, rfl⟩
  | e2 => exact leavesOutside_writeLine hfail _ _ _ hok

theorem leavesOutside_pokeEditLine (s : State) (a : Byte) (fn : Byte → Byte) {at2 ok skip : State → State}
    (hat2 : LeavesOutside at2) (hok : LeavesOutside ok) (hskip : LeavesOutside skip) (l : EditLine) :
    (pokeEditLine s a fn at2 ok skip fail l).LeavesOutside :=
  leavesOutside_editLine (leavesOutside_tryErr hfail hskip) s a fn hat2 hok l

theorem leavesOutside_pokeWriteLine (r : RegMap) (a v : Byte) {ok : State → State} (hok : LeavesOutside ok) :
    (pokeWriteLine r a v ok fail).LeavesOutside :=
  leavesOutside_writeLine (leavesOutside_tryErr hfail hok) r a v hok

theorem leavesOutside_recipeLine (p : Params) (d : Int) {goto : RecipeLine → State → State} {ok : State → State}
    (hgoto : ∀ l, LeavesOutside (goto l)) (hok : LeavesOutside ok) (l : RecipeLine) :
    (recipeLine p d goto ok fail l).LeavesOutside :=
  leavesOutside_pokeWriteLine hfail _ _ _ (leavesOutside_advance hgoto hok l)

theorem leavesOutside_powerLine (s : State) (d : Int) {goto : RecipeLine → State → State} {ok : State → State}
    (hgoto : ∀ l, LeavesOutside (goto l)) (hok : LeavesOutside ok) (l : RecipeLine) :
    (powerLine s d goto ok fail l).LeavesOutside :=
  (leavesOutside_recipeLine hfail _ _ hgoto hok l).after
    (.ite (c := fun _ => l.isFirst = true) (fun _ => ⟨rfl, rfl⟩) (fun _ => ⟨rfl, rfl⟩))

theorem leavesOutside_pulseLine {goto : PulseLine → State → State} {ok : State → State}
    (hgoto : ∀ l, LeavesOutside (goto l)) (hok : LeavesOutside ok) (l : PulseLine) :
    (pulseLine goto ok fail l).LeavesOutside := by
  cases l with
  | p1 => exact Line.LeavesOutside.after (l := .setReset true _ _) ⟨hgoto _, hfail⟩ fun _ => ⟨rfl, rfl⟩
  | p2 => exact hgoto _
  | p3 => exact ⟨hgoto _, hfail⟩
  | p4 => exact hok

theorem leavesOutside_syncLine (r : RegMap) (sentinel : Byte) {goto : SyncLine → State → State} {ok : State → State}
    (hgoto : ∀ l, LeavesOutside (goto l)) (hok : LeavesOutside ok) (l : SyncLine) :
    (syncLine r sentinel goto ok fail l).LeavesOutside := by
  cases l with
  | y1 h =>
    exact (leavesOutside_readLine hfail _ _ fun v => .ite (c := fun _ => v = sentinel) hok (hgoto _)).after
      (leavesOutside_before (above := State.startSync) (fun _ => ⟨rfl, rfl⟩) h)
  | y2 =>
    exact leavesOutside_writeLine hfail _ _ _ (.ite (c := fun u => u.attempt = Config.syncAttempts) (hfail _)
      ((hgoto _).comp (f := State.countAttempt) fun _ => ⟨rfl, rfl⟩))

theorem leavesOutside_pollLine (r : RegMap) (f : Flag) (h : LoopHead) {again ok : State → State}
    (hagain : LeavesOutside again) (hok : LeavesOutside ok) : (pollLine r f h again ok fail).LeavesOutside := by
  have hcount : LeavesOutside State.countPoll := fun _ => ⟨rfl, rfl⟩
  have hbound := LeavesOutside.ite (c := fun u => u.params.pollLimit = some (u.polls + 1))
    ((hfail (.pollTimeout f)).comp hcount) (hagain.comp hcount)
  exact (leavesOutside_readLine hfail _ _ fun v => .ite (c := fun _ => flagSet v (flagMask r f) = true) hok hbound).after
    (leavesOutside_before (above := State.startPoll) (fun _ => ⟨rfl, rfl⟩) h)

theorem leavesOutside_modeLine (s : State) (m : OpMode) {at2 ok : State → State} (hat2 : LeavesOutside at2)
    (hok : LeavesOutside ok) (l : EditLine) : (modeLine s m at2 ok fail l).LeavesOutside := by
  have hpoke := leavesOutside_pokeEditLine hfail s s.params.regMap.aOpmode (modeFn s.params.regMap m) hat2
    (hok.comp (f := State.setShadow m) fun _ => ⟨rfl, rfl⟩) hok
  cases l with
  | e1 => exact (hpoke .e1).after fun _ => ⟨rfl, rfl⟩
  | e2 => exact hpoke .e2

end

theorem leavesOutside_lineSetup (s : State) (cfg : List (Byte × Byte)) (l : SetupLine) :
    (lineSetup s cfg l).LeavesOutside := by
  cases l <;> dsimp only [lineSetup]
  case s1 l => exact leavesOutside_pulseLine leavesOutside_raiseSetup (fun _ => leavesOutside_goto _) (leavesOutside_goto _) l
  case s2 l =>
    exact leavesOutside_syncLine leavesOutside_raiseSetup _ _ (fun _ => leavesOutside_goto _) (leavesOutside_goto _) l
  case s3 l =>
    exact leavesOutside_syncLine leavesOutside_raiseSetup _ _ (fun _ => leavesOutside_goto _)
      (leavesOutside_gotoConfig cfg) l
  case s4 =>
    exact leavesOutside_writeLine leavesOutside_raiseSetup _ _ _
      (.ite (c := fun u => u.cfgI + 1 < u.cfg.length) (fun _ => ⟨rfl, rfl⟩) (fun _ => ⟨rfl, rfl⟩))
  case s5 l =>
    exact leavesOutside_powerLine leavesOutside_raiseSetup _ _ (fun _ => leavesOutside_goto _)
      leavesOutside_finishSetup l

theorem leavesOutside_lineSend (s : State) (dst : Byte) (payload : List Byte) (l : SendLine) :
    (lineSend s dst payload l).LeavesOutside := by
  cases l <;> dsimp only [lineSend]
  case t1 l | t6 l | t7 l =>
    exact leavesOutside_modeLine leavesOutside_raise _ _ (leavesOutside_goto _) (leavesOutside_goto _) l
  case t1w h | t6w h =>
    exact leavesOutside_pollLine leavesOutside_raise _ _ h (leavesOutside_goto _) (leavesOutside_goto _)
  case t7w h => exact leavesOutside_pollLine leavesOutside_raise _ _ h (leavesOutside_goto _) fun _ => ⟨rfl, rfl⟩
  case t2 => exact leavesOutside_writeLine leavesOutside_raise _ _ _ fun _ => ⟨rfl, rfl⟩
  case t4 => exact leavesOutside_writeLine leavesOutside_raise _ _ _ (leavesOutside_goto _)
  case t5 => exact leavesOutside_burstWriteLine leavesOutside_raise _ _ _ (leavesOutside_goto _)
  case t3 l => exact leavesOutside_recipeLine leavesOutside_raise _ _ (fun _ => leavesOutside_goto _) (leavesOutside_goto _) l
  case t7p l =>
    exact leavesOutside_recipeLine leavesOutside_raise _ _ (fun _ => leavesOutside_goto _) (leavesOutside_finish _) l

theorem leavesOutside_lineRxs (s : State) (l : RxsLine) : (lineRxs s l).LeavesOutside := by
  cases l <;> dsimp only [lineRxs]
  case a0 | w2 | l7 => exact fun _ => ⟨rfl, rfl⟩
  case a1 =>
    exact leavesOutside_readLine leavesOutside_raiseRxs _ _ fun v =>
      .ite (c := fun u => flagSet v u.params.regMap.mPayloadReady = true) (fun _ => ⟨rfl, rfl⟩) (fun _ => ⟨rfl, rfl⟩)
  case a1r l =>
    exact leavesOutside_pokeEditLine leavesOutside_raiseRxs _ _ _ (leavesOutside_goto _) (leavesOutside_goto _)
      (leavesOutside_goto _) l
  case a2 => exact leavesOutside_writeLine leavesOutside_raiseRxs _ _ _ (leavesOutside_goto _)
  case a3 l => exact leavesOutside_modeLine leavesOutside_raiseRxs _ _ (leavesOutside_goto _) (leavesOutside_goto _) l
  case a4 | a5 => exact leavesOutside_pokeWriteLine leavesOutside_raiseRxs _ _ _ (leavesOutside_goto _)
  case l3 => exact leavesOutside_readLine leavesOutside_raiseRxs _ _ fun _ _ => ⟨rfl, rfl⟩
  case l4 =>
    exact leavesOutside_burstReadLine leavesOutside_raiseRxs _ _ _ fun h =>
      leavesOutside_checkHeader.comp (f := State.latchHeader h) fun _ => ⟨rfl, rfl⟩
  case l6 => exact leavesOutside_burstReadLine leavesOutside_raiseRxs _ _ _ fun _ _ => ⟨rfl, rfl⟩

/-- No line of any operation writes the parameters (R42) or the turns of the agents (log 1). -/
theorem leavesOutside_lineAt (s : State) (p : Pos) : (lineAt s p).LeavesOutside := by
  cases p <;> dsimp only [lineAt, lineRd, lineWr, lineEd, lineBrd, lineBwr, linePwr, lineRstp, lineSync, lineMode, lineWaitf]
  case rd a => exact leavesOutside_readLine leavesOutside_raise _ _ fun _ => leavesOutside_finish _
  case wr a v => exact leavesOutside_writeLine leavesOutside_raise _ _ _ (leavesOutside_finish _)
  case ed a clr set l =>
    exact leavesOutside_editLine leavesOutside_raise _ _ _ (leavesOutside_goto _) (leavesOutside_finish _) l
  case brd a n => exact leavesOutside_burstReadLine leavesOutside_raise _ _ _ leavesOutside_finish
  case bwr a bytes => exact leavesOutside_burstWriteLine leavesOutside_raise _ _ _ (leavesOutside_finish _)
  case pwr q l =>
    exact leavesOutside_powerLine leavesOutside_raise _ _ (fun _ => leavesOutside_goto _) (leavesOutside_finish _) l
  case rstp l => exact leavesOutside_pulseLine leavesOutside_raise (fun _ => leavesOutside_goto _) (leavesOutside_finish _) l
  case sync sentinel l =>
    exact leavesOutside_syncLine leavesOutside_raise _ _ (fun _ => leavesOutside_goto _) (leavesOutside_finish _) l
  case setup cfg l => exact leavesOutside_lineSetup s cfg l
  case mode m l => exact leavesOutside_modeLine leavesOutside_raise _ _ (leavesOutside_goto _) (leavesOutside_finish _) l
  case waitf f h => exact leavesOutside_pollLine leavesOutside_raise _ _ h (leavesOutside_goto _) (leavesOutside_finish _)
  case send dst payload l => exact leavesOutside_lineSend s dst payload l
  case rxs l => exact leavesOutside_lineRxs s l

/-- A turn of the sequencer writes neither the parameters nor the turns still to come. -/
theorem leavesOutside_takeLine (t : Turn) : LeavesOutside (takeLine t) := fun s => by
  cases hs : s.seq with
  | idle => rw [takeLine_idle hs]; exact ⟨rfl, rfl⟩
  | running p => rw [takeLine_running hs]; exact (leavesOutside_lineAt s p).complete t s

/-! ### A run is so many steps (R13, log 2) -/

/-- The run of an operation takes at most one step for each turn. -/
theorem stepsTo_drive (ts : List Turn) : ∀ s : State, s.env = ts → ∃ n, n ≤ ts.length ∧ stepsTo n s (drive ts s) := by
  induction ts with
  | nil => exact fun s _ => ⟨0, le_rfl, rfl⟩
  | cons t rest ih =>
    intro s henv
    cases ht : t.isSequencer with
    | false => exact ⟨0, Nat.zero_le _, (drive_other rest s ht).symm⟩
    | true =>
      cases hs : s.seq with
      | idle => exact ⟨0, Nat.zero_le _, (drive_idle _ hs).symm⟩
      | running p =>
        obtain ⟨n, hn, hsteps⟩ := ih (takeLine t (s.withEnv rest)) (leavesOutside_takeLine t _).2
        have hdrive : drive (t :: rest) s = drive rest (takeLine t (s.withEnv rest)) := by
          simp [drive, ht, busy_running hs]
        exact ⟨n + 1, Nat.succ_le_succ hn, _, step_line henv ht, hdrive ▸ hsteps⟩

/-- Refusals do not look at the turns still to come (R258). -/
theorem refusal_withEnv (gated tooLong : Bool) (s : State) (ts : List Turn) :
    (s.withEnv ts).refusal gated tooLong = s.refusal gated tooLong := rfl

/-- A refused command is a response, whatever turns follow. -/
theorem issue_refused {gated tooLong : Bool} {start : State → State} {s : State} {e : Err}
    (h : s.refusal gated tooLong = some e) : issue gated tooLong start s = .next (s.refuse e) := by
  simp [issue, h]

theorem issue_of_refusal_none {gated tooLong : Bool} {start : State → State} {s : State}
    (h : s.refusal gated tooLong = none) : issue gated tooLong start s = .next (drive s.env (start s)) := by
  simp [issue, h]

/-- A command given no turn and then run on `rest` step by step ends where the same command given `rest` at once does. -/
theorem stepsTo_of_issue {gated tooLong : Bool} {start : State → State} {s t : State} {rest : List Turn}
    (hstart : ∀ u ts, start (u.withEnv ts) = (start u).withEnv ts)
    (hstep : step s = keepTurns rest (issue gated tooLong start (s.withEnv [])))
    (h : issue gated tooLong start (s.withEnv rest) = .next t) : ∃ n, n ≤ rest.length ∧ stepsTo (n + 1) s t := by
  cases href : s.refusal gated tooLong with
  | some e =>
    rw [issue_refused ((refusal_withEnv ..).trans href)] at h hstep
    cases h
    exact ⟨0, Nat.zero_le _, _, hstep, rfl⟩
  | none =>
    rw [issue_of_refusal_none ((refusal_withEnv ..).trans href), hstart] at h hstep
    cases h
    obtain ⟨n, hn, hsteps⟩ := stepsTo_drive rest ((start s).withEnv rest) rfl
    exact ⟨n, hn, _, hstep, hsteps⟩

/-! ### What decodes is a command, and a command is issued -/

theorem format_of_operands0 {i j : Instr} (hj : j.format = .cmd) {operands : List Byte}
    (h : operands0 j operands = .instr i) : i.format = .cmd := by
  unfold operands0 at h
  split at h <;> cases h
  exact hj

theorem format_of_operands1 {f : Byte → Decoded} {i : Instr} (hf : ∀ a, f a = .instr i → i.format = .cmd)
    {operands : List Byte} (h : operands1 f operands = .instr i) : i.format = .cmd := by
  unfold operands1 at h
  split at h
  · exact hf _ h
  · cases h

theorem format_of_operands2 {f : Byte → Byte → Instr} {i : Instr} (hf : ∀ a b, (f a b).format = .cmd)
    {operands : List Byte} (h : operands2 f operands = .instr i) : i.format = .cmd := by
  unfold operands2 at h
  split at h <;> cases h
  exact hf _ _

theorem format_of_operands3 {f : Byte → Byte → Byte → Instr} {i : Instr} (hf : ∀ a b c, (f a b c).format = .cmd)
    {operands : List Byte} (h : operands3 f operands = .instr i) : i.format = .cmd := by
  unfold operands3 at h
  split at h <;> cases h
  exact hf _ _ _

theorem format_of_operandsCounted {f : Byte → List Byte → Instr} {i : Instr} (hf : ∀ a bytes, (f a bytes).format = .cmd)
    {operands : List Byte} (h : operandsCounted f operands = .instr i) : i.format = .cmd := by
  unfold operandsCounted at h
  split at h
  · split at h <;> cases h
    exact hf _ _
  · cases h

theorem format_of_operandsPairs {i : Instr} {operands : List Byte} (h : operandsPairs operands = .instr i) :
    i.format = .cmd := by
  unfold operandsPairs at h
  split at h
  · split at h
    · split at h <;> cases h
      rfl
    · cases h
  · cases h

theorem format_of_decodeMode {i : Instr} {m : Byte} (h : decodeMode m = .instr i) : i.format = .cmd := by
  unfold decodeMode at h
  split at h <;> cases h
  rfl

theorem format_of_decodeFlag {i : Instr} {f : Byte} (h : decodeFlag f = .instr i) : i.format = .cmd := by
  unfold decodeFlag at h
  split at h <;> cases h
  rfl

theorem format_of_decodeOperands {i : Instr} {o : Opcode} {operands : List Byte}
    (h : decodeOperands operands o = .instr i) : i.format = .cmd := by
  cases o with
  | rd | pwr | sync => exact format_of_operands1 (fun _ h => by cases h; rfl) h
  | wr | brd => exact format_of_operands2 (fun _ _ => rfl) h
  | ed => exact format_of_operands3 (fun _ _ _ => rfl) h
  | bwr | send => exact format_of_operandsCounted (fun _ _ => rfl) h
  | rstp | rxs => exact format_of_operands0 rfl h
  | setup => exact format_of_operandsPairs h
  | mode => exact format_of_operands1 (fun _ => format_of_decodeMode) h
  | waitf => exact format_of_operands1 (fun _ => format_of_decodeFlag) h

/-- Port `cmd` decodes commands only (R89). -/
theorem format_of_decodeCmd {i : Instr} {op : Byte} {operands : List Byte} (h : decodeCmd op operands = .instr i) :
    i.format = .cmd := by
  unfold decodeCmd at h
  split at h
  · exact format_of_decodeOperands h
  · cases h

/-- The meaning of a command is its issue: the tests of R258, and a start that does not look at the turns still to come. -/
theorem exec_eq_issue {i : Instr} (h : i.format = .cmd) : ∃ gated tooLong, ∃ start : State → State,
    (∀ u ts, start (u.withEnv ts) = (start u).withEnv ts) ∧ ∀ s, exec i s = issue gated tooLong start s := by
  cases i with
  | busR1 | busW1 | busRN | busWN | fifoFrame => cases h
  | _ => exact ⟨_, _, _, fun _ _ => rfl, fun _ => rfl⟩

/-- At `Idle` the step of a command that decodes is its acceptance or refusal, the later turns kept (R258). -/
theorem step_cmd {s : State} {op : Byte} {operands : List Byte} {rest : List Turn} {i : Instr} (hs : s.seq = .idle)
    (henv : s.env = .cmd op operands :: rest) (hdec : decodeCmd op operands = .instr i) :
    step s = keepTurns rest (exec i (s.withEnv [])) := by
  have hstep : step s = command op operands (s.withEnv rest) := by simp [step, turn, henv]
  have hbusy : (s.withEnv rest).busy = false := busy_idle hs
  rw [hstep, command, hbusy, hdec]
  rfl

/-- With an operation in progress the step of a sequencer's turn completes the line at the position (R13). -/
theorem step_running_line {s : State} {p : Pos} {t : Turn} {rest : List Turn} (hs : s.seq = .running p)
    (henv : s.env = t :: rest) (ht : t.isSequencer = true) :
    step s = .next ((lineAt s p).complete t (s.withEnv rest)) := by
  rw [step_line henv ht, takeLine_running (s := s.withEnv rest) hs, lineAt_withEnv]

/-- Settles O46: a command's step is its acceptance, and the run of its lines is one step for each. -/
theorem stepRunsDecoded : Obligations.StepRunsDecoded := by
  intro s rest
  refine ⟨fun op operands i hs henv hdec => ?_, fun p t hs henv ht => step_running_line hs henv ht⟩
  have hstep := step_cmd hs henv hdec
  obtain ⟨gated, tooLong, start, hstart, hexec⟩ := exec_eq_issue (format_of_decodeCmd hdec)
  refine ⟨hstep, fun t ht => ?_⟩
  rw [hexec] at hstep
  exact stepsTo_of_issue hstart hstep ((hexec _).symm.trans ht)

end Sys2Proof.Machine
end

section
/-! PROOFS of the family `20_memory.md`: a command is examined in the order of R258 and accepted at its first labelled line
with its operands latched (R63). -/

namespace Sys2Proof.Machine

/-! ### The recipe of a clamped power (R130, R132) -/

/-- What lies in the power range is not clamped again (R12). -/
@[simp] theorem clampPower_clampPower (d : Int) : clampPower (clampPower d) = clampPower d := by
  obtain ⟨hmin, hmax⟩ := clampPower_range d
  generalize clampPower d = q at hmin hmax
  simp only [clampPower, clamp, Config.powerMin, Config.powerMax]
  split_ifs <;> omega

/-- The table clamps its index itself (R132). -/
@[simp] theorem powerSetting_clampPower (p : Params) (d : Int) : powerSetting p (clampPower d) = powerSetting p d := by
  simp [powerSetting, powerIndex]

@[simp] theorem recipeFirst_clampPower (p : Params) (d : Int) : recipeFirst p (clampPower d) = recipeFirst p d := by
  simp [recipeFirst]

/-- `PWR` begins at the first line of its tier's recipe (R133). -/
theorem firstLine_pwr (q : Params) (p : Byte) : firstLine q (.pwr p) = some (.pwr p (recipeFirst q p.toInt)) := by
  cases h : tier (powerSetting q p.toInt) <;> simp [firstLine, recipeFirst, h]

/-! ### The tests of R258 by operation -/

/-- The operations that need a completed `SETUP` (R258). -/
def needsSetup : Instr → Bool
  | .send _ _ | .rxs => true
  | _ => false

/-- The operations with more payload than a packet holds (R191, R258). -/
def exceedsPayload : Instr → Bool
  | .send _ payload => decide (Config.maxPayload < payload.length)
  | _ => false

theorem needsSetup_iff (i : Instr) : needsSetup i = true ↔ i = .rxs ∨ ∃ dst payload, i = .send dst payload := by
  cases i <;> simp [needsSetup]

theorem exceedsPayload_iff (i : Instr) :
    exceedsPayload i = true ↔ ∃ dst payload, i = .send dst payload ∧ Config.maxPayload < payload.length := by
  cases i <;> simp [exceedsPayload]

/-- The meaning of a command is its issue under its own tests; what it starts is its first labelled line, with its operands
latched (R63, R258 step 5). -/
theorem exec_eq_issue_firstLine {i : Instr} (h : i.format = .cmd) (s : State) : ∃ start : State → State, ∃ p,
    firstLine s.params i = some p ∧ start s = (s.latched i).goto p ∧
    exec i s = issue (needsSetup i) (exceedsPayload i) start s := by
  cases i with
  | busR1 | busW1 | busRN | busWN | fifoFrame => cases h
  | pwr d => exact ⟨_, _, firstLine_pwr s.params d, by rw [← recipeFirst_clampPower], rfl⟩
  | _ => exact ⟨fun t => (t.latched _).goto _, _, rfl, rfl, rfl⟩

theorem latched_withEnv (i : Instr) (s : State) (ts : List Turn) :
    (s.withEnv ts).latched i = (s.latched i).withEnv ts := by cases i <;> rfl

/-- Before set-up a gated operation is not ready, however long its payload (D41). -/
theorem refusal_notReady {gated tooLong : Bool} {s : State} (hs : s.seq = .idle) (hgated : gated = true)
    (hdone : s.setupDone = false) : s.refusal gated tooLong = some .notReady := by
  simp [State.refusal, hs, hgated, hdone]

theorem refusal_payloadTooLong {gated tooLong : Bool} {s : State} (hs : s.seq = .idle) (hdone : s.setupDone = true)
    (hlong : tooLong = true) : s.refusal gated tooLong = some .payloadTooLong := by
  simp [State.refusal, hs, hdone, hlong]

theorem refusal_eq_none {gated tooLong : Bool} {s : State} (hs : s.seq = .idle) (hdone : gated = true → s.setupDone = true)
    (hshort : tooLong = false) : s.refusal gated tooLong = none := by
  cases gated <;> simp_all [State.refusal]

/-! ### The step of a command -/

section
variable {s : State} {op : Byte} {operands : List Byte} {rest : List Turn} {i : Instr}
variable (henv : s.env = .cmd op operands :: rest)
include henv

theorem step_eq_command : step s = command op operands (s.withEnv rest) := by simp [step, turn, henv]

/-- With an operation in progress a command is refused before it is decoded (R258 step 1). -/
theorem step_cmd_busy {p : Pos} (hs : s.seq = .running p) : step s = .next ((s.withEnv rest).refuse .busy) := by
  have hbusy : (s.withEnv rest).busy = true := busy_running hs
  simp [step_eq_command henv, command, hbusy]

/-- At `Idle` what does not decode is illegal (R258 step 2, R92). -/
theorem step_cmd_illegal {r : Reject} (hs : s.seq = .idle) (hdec : decodeCmd op operands = .reject r) :
    step s = .next ((s.withEnv rest).refuse (.illegalCommand op)) := by
  have hbusy : (s.withEnv rest).busy = false := busy_idle hs
  simp [step_eq_command henv, command, hbusy, hdec]

/-- What the tests of the decoded operation refuse is a response and nothing else (R258 steps 3 and 4). -/
theorem step_cmd_refused {e : Err} (hs : s.seq = .idle) (hdec : decodeCmd op operands = .instr i)
    (href : s.refusal (needsSetup i) (exceedsPayload i) = some e) : step s = .next ((s.withEnv rest).refuse e) := by
  obtain ⟨start, p, -, -, hexec⟩ := exec_eq_issue_firstLine (format_of_decodeCmd hdec) (s.withEnv [])
  rw [step_cmd hs henv hdec, hexec, issue_refused ((refusal_withEnv ..).trans href)]
  rfl

/-- What the tests pass is accepted: `seq` at the first labelled line, the operands latched (R258 step 5, R63). -/
theorem step_cmd_accepted (hs : s.seq = .idle) (hdec : decodeCmd op operands = .instr i)
    (href : s.refusal (needsSetup i) (exceedsPayload i) = none) :
    ∃ p, firstLine s.params i = some p ∧ step s = .next (((s.latched i).goto p).withEnv rest) := by
  obtain ⟨start, p, hfirst, hstart, hexec⟩ := exec_eq_issue_firstLine (format_of_decodeCmd hdec) (s.withEnv [])
  refine ⟨p, hfirst, ?_⟩
  rw [step_cmd hs henv hdec, hexec, issue_of_refusal_none ((refusal_withEnv ..).trans href), hstart, latched_withEnv]
  rfl

end

/-- Settles O45: one case for each test of R258, in its order, and the acceptance. -/
theorem commandExaminedInOrder : Obligations.CommandExaminedInOrder := by
  intro s op operands rest henv
  refine ⟨fun ⟨p, hs⟩ => step_cmd_busy henv hs, fun hs => ⟨fun r hdec => step_cmd_illegal henv hs hdec, fun i hdec => ?_⟩⟩
  refine ⟨fun hdone hgated => ?notReady, fun hdone hlong => ?payloadTooLong, fun hdone hshort => ?accepted⟩
  case notReady => exact step_cmd_refused henv hs hdec (refusal_notReady hs ((needsSetup_iff i).mpr hgated) hdone)
  case payloadTooLong => exact step_cmd_refused henv hs hdec (refusal_payloadTooLong hs hdone ((exceedsPayload_iff i).mpr hlong))
  case accepted =>
    have hfits : exceedsPayload i = false := by
      rw [Bool.eq_false_iff, Ne, exceedsPayload_iff]
      rintro ⟨dst, payload, hi, hlong⟩
      exact absurd (hshort dst payload hi) (Nat.not_le.mpr hlong)
    exact step_cmd_accepted henv hs hdec (refusal_eq_none hs (fun h => hdone ((needsSetup_iff i).mp h)) hfits)

end Sys2Proof.Machine
end

section
/-! PROOFS of the family `40_register_access.md`: `RD`, `WR`, `BWR` are one transaction and its response, `ED` is a read and a
write, each with its failures (R110, R112, R114, R118, R120). -/

namespace Sys2Proof.Machine

/-! ### Decoding by opcode (R89) -/

/-- An opcode's byte stands for that opcode alone (R89). -/
@[simp] theorem decodeCmd_byte (o : Opcode) (operands : List Byte) :
    decodeCmd o.byte operands = decodeOperands operands o := by cases o <;> rfl

theorem operandsCounted_of_length (f : Byte → List Byte → Instr) {a n : Byte} {bytes : List Byte}
    (h : bytes.length = n.toNat) : operandsCounted f (a :: n :: bytes) = .instr (f a bytes) := by
  simp [operandsCounted, h]

/-! ### The end of an operation -/

/-- An operation outside `RXS` ends: `seq <- Idle` and a response (R90, R262). -/
def State.respond (bytes : List Byte) (s : State) : State :=
  { s with seq := .idle, trace := s.trace ++ [.response bytes] }

theorem finish_eq_respond (s : State) (value : List Byte) : s.finish value = s.respond (okResponse value) := rfl

theorem raise_eq_respond (e : Err) (s : State) : s.raise e = s.respond e.response := rfl

/-- Bus accesses leave no more than this: the turns left over, the last answer, and the record (R121). -/
def State.accessed (s : State) (rest : List Turn) (ans : Answer) (events : List Event) : State :=
  { s with env := rest, busRx := ans.bytes, trace := s.trace ++ events }

/-- A line that ends its operation is the last of the run, whatever turns follow. -/
theorem drive_last_line {s : State} {p : Pos} {tx bytes : List Byte} {ans : Answer} (rest : List Turn)
    (hs : s.seq = .running p)
    (hline : ∀ u, (lineAt s p).complete (.board ans) u = (u.transact tx ans).respond bytes) :
    drive (.board ans :: rest) s = ((s.withEnv rest).transact tx ans).respond bytes := by
  rw [drive_line hs rfl, lineAt_withEnv, hline]
  exact drive_idle rest rfl

/-- A command whose first line ends it is one transaction and one response; no register of the RAC changes (R110, R112,
R118). -/
theorem issue_one_line {s : State} {p : Pos} {tx bytes : List Byte} {ans : Answer} {rest : List Turn} (hs : s.seq = .idle)
    (henv : s.env = .board ans :: rest)
    (hline : ∀ u, (lineAt (s.goto p) p).complete (.board ans) u = (u.transact tx ans).respond bytes) :
    issue false false (fun t => t.goto p) s =
      .next (s.accessed rest ans [.transfer tx ans.bytes, .response bytes]) := by
  rw [issue_accepted hs (by simp) rfl, henv, drive_last_line rest rfl hline]
  congr 1
  apply State.ext <;> simp [State.respond, State.accessed, hs]

/-! ### One transaction: `RD`, `WR`, `BWR` -/

/-- `X1` of `RD` answered: `Ok` with `rx[1]` (R110). -/
theorem complete_lineRd_ok (s : State) (a echo v : Byte) (u : State) :
    (lineRd s a).complete (.board (.ok [echo, v])) u =
      (u.transact (frameR1 s.params.regMap a) (.ok [echo, v])).respond (okResponse [v]) := by
  rw [lineRd, complete_readLine_ok, finish_eq_respond]

/-- `X1` of `RD` failed (R120). -/
theorem complete_lineRd_err (s : State) (a : Byte) (u : State) :
    (lineRd s a).complete (.board .err) u =
      (u.transact (frameR1 s.params.regMap a) .err).respond
        (Err.busError (addrByte s.params.regMap a .read)).response := by
  rw [lineRd, complete_readLine_err, raise_eq_respond]

/-- Settles O1: `X1` of `RD` is a read line, and both its answers end the operation. -/
theorem rdIsOneRead : Obligations.RdIsOneRead := by
  intro s a rest hs
  refine ⟨decodeCmd_byte .rd [a], fun echo v henv => ?answered, fun henv => ?failed⟩
  case answered => exact issue_one_line hs henv fun _ => complete_lineRd_ok ..
  case failed => exact issue_one_line hs henv fun _ => complete_lineRd_err ..

/-- Settles O2: `X1` of `WR` is a write line, and both its answers end the operation. -/
theorem wrIsOneWrite : Obligations.WrIsOneWrite := by
  intro s a v rest hs
  refine ⟨decodeCmd_byte .wr [a, v], fun x y henv => ?answered, fun henv => ?failed⟩
  case answered => exact issue_one_line hs henv fun _ => complete_writeLine_ok ..
  case failed => exact issue_one_line hs henv fun _ => complete_writeLine_err ..

/-- Settles O5: `X1` of `BWR` is a burst write line, and both its answers end the operation. -/
theorem bwrWritesInOneTransfer : Obligations.BwrWritesInOneTransfer := by
  intro s a n bytes rest hs hlen
  refine ⟨(decodeCmd_byte .bwr _).trans (operandsCounted_of_length _ hlen), fun rx hrx henv => ?answered,
    fun henv => ?failed⟩
  case answered => exact issue_one_line hs henv fun _ => complete_burstWriteLine_ok _ _ _ _ _ _ _ hrx
  case failed => exact issue_one_line hs henv fun _ => complete_burstWriteLine_err ..

/-! ### Two transactions: `ED` -/

/-- `E1` of `ED` answered: the value is latched, and `E2` is next (R114). -/
theorem complete_lineEd_read_ok (s : State) (a clr set x v : Byte) (u : State) :
    (lineEd s a clr set .e1).complete (.board (.ok [x, v])) u =
      ((u.transact (frameR1 s.params.regMap a) (.ok [x, v])).latchEdit v).goto (.ed a clr set .e2) := by
  rw [lineEd, editLine, complete_readLine_ok]

/-- `E1` of `ED` failed (R120). -/
theorem complete_lineEd_read_err (s : State) (a clr set : Byte) (u : State) :
    (lineEd s a clr set .e1).complete (.board .err) u =
      (u.transact (frameR1 s.params.regMap a) .err).respond
        (Err.busError (addrByte s.params.regMap a .read)).response := by
  rw [lineEd, editLine, complete_readLine_err, raise_eq_respond]

theorem exec_ed (s : State) (a clr set : Byte) :
    exec (.ed a clr set) s = issue false false (fun t => t.goto (.ed a clr set .e1)) s := rfl

/-- The state in which `ED` stands at `E2`: the read is on record and `edit_old` holds its value (R114). -/
def State.editRead (s : State) (a clr set : Byte) (x : Byte × Byte) (rest : List Turn) : State :=
  (((s.withEnv rest).transact (frameR1 s.params.regMap a) (.ok [x.1, x.2])).latchEdit x.2).goto (.ed a clr set .e2)

/-- `E1` answered: the run goes on at `E2`. -/
theorem drive_ed_read (s : State) (a clr set : Byte) (x : Byte × Byte) (rest : List Turn) :
    drive (answer x :: rest) (s.goto (.ed a clr set .e1)) = drive rest (s.editRead a clr set x rest) := by
  rw [drive_line (p := .ed a clr set .e1) rfl rfl, lineAt, answer, complete_lineEd_read_ok]
  rfl

/-- `ED` with its read answered: the write of the transform of that value ends it, whether answered or failed (R114, R91). -/
theorem exec_ed_read_then_write {s : State} {a clr set : Byte} {x : Byte × Byte} {ans : Answer} {bytes : List Byte}
    {rest : List Turn} (hs : s.seq = .idle) (henv : s.env = answer x :: .board ans :: rest)
    (hline : ∀ u, (lineEd (s.latchEdit x.2) a clr set .e2).complete (.board ans) u =
      (u.transact (frameW1 s.params.regMap a (editFn clr set x.2)) ans).respond bytes) :
    exec (.ed a clr set) s = .next ((s.latchEdit x.2).accessed rest ans
      [readOf s.params.regMap a x, .transfer (frameW1 s.params.regMap a (editFn clr set x.2)) ans.bytes,
        .response bytes]) := by
  rw [exec_ed, issue_accepted hs (by simp) rfl, henv, drive_ed_read, drive_last_line rest rfl hline]
  congr 1
  apply State.ext <;> simp [State.editRead, State.respond, State.accessed, readOf, hs]

/-- Settles O3: a failed read ends `ED` at `E1`; an answered one leads to `E2`, which either answer ends. -/
theorem edReadsThenWrites : Obligations.EdReadsThenWrites := by
  intro s a clr set rest hs
  refine ⟨decodeCmd_byte .ed [a, clr, set], fun x y henv => ?answered, fun henv => ?readFailed, fun x henv => ?writeFailed⟩
  case answered => exact exec_ed_read_then_write hs henv fun _ => complete_writeLine_ok ..
  case readFailed => exact issue_one_line hs henv fun _ => complete_lineEd_read_err ..
  case writeFailed => exact exec_ed_read_then_write hs henv fun _ => complete_writeLine_err ..

end Sys2Proof.Machine
end

section
/-! PROOFS of the family `41_power.md`: the row the table answers for an integer, and the tier its two flags select (R132). -/

namespace Sys2Proof.Machine

/-- The model's clamp to the power range as a maximum of a minimum (R12, R130). -/
theorem clampPower_eq_max_min (d : Int) : clampPower d = max (-2) (min 20 d) := by
  simp only [clampPower, clamp, Config.powerMin, Config.powerMax]
  split_ifs <;> omega

/-- The row index as a number: the clamped power plus 2 (R132). -/
theorem powerIndex_val (d : Int) : (powerIndex d).val = (max (-2) (min 20 d) + 2).toNat := by
  rw [← clampPower_eq_max_min]
  rfl

/-! ### The tier by the row's flags (R132) -/

theorem tier_eq_highPower_iff (r : PowerRow) : tier r = .highPower ↔ r.useHighPower = true := by
  rw [tier]
  split_ifs <;> simp_all

theorem tier_eq_secondStage_iff (r : PowerRow) :
    tier r = .secondStage ↔ r.useSecondStage = true ∧ r.useHighPower = false := by
  rw [tier]
  split_ifs <;> simp_all

theorem tier_eq_base_iff (r : PowerRow) : tier r = .base ↔ r.useSecondStage = false ∧ r.useHighPower = false := by
  rw [tier]
  split_ifs <;> simp_all

/-- Settles O14: the index in the table is the clamped power plus 2, and the tier is read off the flags of that row. -/
theorem powerSettingOfTable : Obligations.PowerSettingOfTable := by
  intro p d
  have hlt : (max (-2) (min 20 d) + 2).toNat < 23 := powerIndex_val d ▸ (powerIndex d).isLt
  have hrow : powerSetting p d = p.powerTable[(max (-2) (min 20 d) + 2).toNat] := by
    simp only [← powerIndex_val]
    rfl
  exact ⟨⟨hlt, hrow⟩, tier_eq_highPower_iff _, tier_eq_secondStage_iff _, tier_eq_base_iff _⟩

end Sys2Proof.Machine
end

section
/-! PROOFS of the family `45_receive.md`: the RSSI conversion halves and rounds toward zero, and the read at `L3` stands
between `W2` and `L4` (R222, R223). -/

namespace Sys2Proof.Machine

/-! ### The RSSI conversion (R223) -/

/-- Truncation toward zero of `-r / 2` is minus the half of `r` rounded down. -/
theorem rssiOf_eq_neg_half (r : Byte) : rssiOf r = -((r.toNat / 2 : Nat) : Int) := by
  rw [rssiOf, Int.neg_tdiv, Int.ofNat_tdiv]
  rfl

/-- The conversion of a byte lies in -127 to 0. -/
theorem rssiOf_bounds (r : Byte) : -127 ≤ rssiOf r ∧ rssiOf r ≤ 0 := by
  have hbyte : r.toNat < 256 := r.isLt
  rw [rssiOf_eq_neg_half]
  omega

/-! ### `W2` and `L3` (R222, R223) -/

/-- `W2` with the latch set: the event is taken, and `L3` is next (R222). -/
theorem step_w2_pending {s : State} {rest : List Turn} (hs : s.seq = .running (.rxs .w2)) (hpending : s.evtPending = true)
    (henv : s.env = .tick :: rest) : step s = .next ((s.withEnv rest).takeEvent.goto (.rxs .l3)) := by
  rw [step_running_line hs henv rfl]
  simp [lineAt, lineRxs, Line.complete, hpending]

/-- `L3` answered: the one read of the RSSI register is on record, its byte is latched with its conversion, and `L4` is
next (R223). -/
theorem step_l3_answered {s : State} {x : Byte × Byte} {rest : List Turn} (hs : s.seq = .running (.rxs .l3))
    (henv : s.env = answer x :: rest) :
    step s = .next ((((s.withEnv rest).transact (frameR1 s.params.regMap s.params.regMap.aRssi)
      (.ok [x.1, x.2])).latchRssi x.2).goto (.rxs .l4)) := by
  rw [step_running_line hs henv rfl, lineAt, lineRxs, answer, complete_readLine_ok]

/-- Settles O38: the conversion is minus the half rounded down, and `L3` is the one step from `W2` to `L4`. -/
theorem rssiReadAndTruncated : Obligations.RssiReadAndTruncated := by
  refine ⟨fun r => ⟨rssiOf_eq_neg_half r, rssiOf_bounds r⟩, by decide,
    fun s x rest => ⟨fun hs hpending henv => ?fromW2, fun hs henv => ?fromL3⟩⟩
  case fromW2 =>
    have hw2 := step_w2_pending hs hpending henv
    have hl3 := step_l3_answered (s := (s.withEnv (answer x :: rest)).takeEvent.goto (.rxs .l3)) rfl rfl
    exact ⟨_, ⟨_, hw2, _, hl3, rfl⟩, rfl, rfl, rfl⟩
  case fromL3 => exact step_l3_answered hs henv

end Sys2Proof.Machine
end

section
/-! PROOFS of the encodings: each decoder reads back what the encoder writes, and nothing else; what is no encoding of a
command is refused (R80 to R92). -/

namespace Sys2Proof.Machine

/-! ### The address byte (R81) -/

theorem dirMask_oneBit (p : Params) : p.regMap.dirMask.oneBit = true := by
  have hwf := p.regMapWf
  simp only [RegMap.wf, RegMap.wfDirection, Bool.and_eq_true] at hwf
  obtain ⟨⟨⟨⟨⟨hbit, -⟩, -⟩, -⟩, -⟩, -⟩ := hwf
  exact hbit

/-- The direction bit is one bit of the byte (R81). -/
theorem dirMask_eq_twoPow (p : Params) : ∃ k, p.regMap.dirMask = BitVec.twoPow 8 k := by
  have hbit := dirMask_oneBit p
  simp only [Byte.oneBit, List.any_eq_true, beq_iff_eq] at hbit
  obtain ⟨k, -, hk⟩ := hbit
  exact ⟨k, hk.trans (BitVec.eq_of_toNat_eq (by simp [BitVec.toNat_twoPow]))⟩

/-- One direction is the bit, the other its absence (R81). -/
theorem dirBits_cases (p : Params) :
    (p.regMap.dirWrite = p.regMap.dirMask ∧ p.regMap.dirRead = 0) ∨
    (p.regMap.dirRead = p.regMap.dirMask ∧ p.regMap.dirWrite = 0) := by
  have hwf := p.regMapWf
  simp only [RegMap.wf, RegMap.wfDirection, Bool.and_eq_true, Bool.or_eq_true, beq_iff_eq] at hwf
  obtain ⟨⟨⟨⟨⟨-, hdir⟩, -⟩, -⟩, -⟩, -⟩ := hwf
  exact hdir

theorem dirMask_ne_zero (p : Params) : p.regMap.dirMask ≠ 0 := fun h => by
  have hbit := dirMask_oneBit p
  rw [h] at hbit
  exact absurd hbit (by decide)

theorem dirRead_ne_dirWrite (p : Params) : p.regMap.dirRead ≠ p.regMap.dirWrite := by
  obtain ⟨hwrite, hread⟩ | ⟨hread, hwrite⟩ := dirBits_cases p <;> rw [hwrite, hread]
  · exact (dirMask_ne_zero p).symm
  · exact dirMask_ne_zero p

/-- A byte's direction bit is the one of a read or of a write. -/
theorem and_dirMask_cases (p : Params) (b : Byte) :
    b &&& p.regMap.dirMask = p.regMap.dirRead ∨ b &&& p.regMap.dirMask = p.regMap.dirWrite := by
  obtain ⟨k, hk⟩ := dirMask_eq_twoPow p
  have hbit : b &&& p.regMap.dirMask = p.regMap.dirMask ∨ b &&& p.regMap.dirMask = 0 := by
    rw [hk, BitVec.and_twoPow]
    split_ifs <;> simp
  obtain ⟨hwrite, hread⟩ | ⟨hread, hwrite⟩ := dirBits_cases p <;> rw [hwrite, hread]
  · exact hbit.symm
  · exact hbit

theorem and_or_and_not (b m : Byte) : (b &&& ~~~m) ||| (b &&& m) = b := by
  ext i
  simp only [BitVec.getElem_or, BitVec.getElem_and, BitVec.getElem_not]
  cases b[i] <;> cases m[i] <;> rfl

theorem and_not_and (b m : Byte) : (b &&& ~~~m) &&& m = 0 := by
  ext i
  simp

/-- Where the direction bit is clear, clearing it changes nothing. -/
theorem and_not_of_and_eq_zero {b m : Byte} (h : b &&& m = 0) : b &&& ~~~m = b := by
  have hsplit := and_or_and_not b m
  rw [h] at hsplit
  simpa using hsplit

theorem dirBits_and_dirMask (p : Params) (d : Dir) : dirBits p.regMap d &&& p.regMap.dirMask = dirBits p.regMap d := by
  obtain ⟨hwrite, hread⟩ | ⟨hread, hwrite⟩ := dirBits_cases p <;> cases d <;> simp [dirBits, hwrite, hread]

/-- The direction bit of an address byte is the direction's, whatever the operand (R81). -/
theorem addrByte_and_dirMask (p : Params) (a : Byte) (d : Dir) :
    addrByte p.regMap a d &&& p.regMap.dirMask = dirBits p.regMap d := by
  calc addrByte p.regMap a d &&& p.regMap.dirMask
      = ((a &&& ~~~p.regMap.dirMask) &&& p.regMap.dirMask) ||| (dirBits p.regMap d &&& p.regMap.dirMask) := by
        ext i
        simp [addrByte, Bool.and_or_distrib_right]
    _ = dirBits p.regMap d := by simp [and_not_and, dirBits_and_dirMask]

/-- The other seven bits of an address byte are the operand's (R81). -/
theorem addrByte_and_not_dirMask (p : Params) (a : Byte) (d : Dir) :
    addrByte p.regMap a d &&& ~~~p.regMap.dirMask = a &&& ~~~p.regMap.dirMask := by
  have hdir : dirBits p.regMap d &&& ~~~p.regMap.dirMask = 0 := by
    rw [← dirBits_and_dirMask p d]
    ext i
    simp only [BitVec.getElem_and, BitVec.getElem_not]
    cases p.regMap.dirMask[i] <;> simp
  calc addrByte p.regMap a d &&& ~~~p.regMap.dirMask
      = (a &&& ~~~p.regMap.dirMask) ||| (dirBits p.regMap d &&& ~~~p.regMap.dirMask) := by
        ext i
        simp [addrByte, Bool.and_or_distrib_right]
    _ = a &&& ~~~p.regMap.dirMask := by simp [hdir]

/-- An address byte is told by its direction bit and its other seven bits. -/
theorem addrByte_of_and_dirMask (p : Params) {b : Byte} {d : Dir} (h : b &&& p.regMap.dirMask = dirBits p.regMap d) :
    addrByte p.regMap (b &&& ~~~p.regMap.dirMask) d = b := by
  rw [addrByte, ← h, BitVec.and_assoc, BitVec.and_self, and_or_and_not]

/-- Settles O6: the address byte is the operand's seven bits and the direction's bit. -/
theorem directionBitOverwritten : Obligations.DirectionBitOverwritten := by
  intro p a
  refine ⟨rfl, rfl, fun h => ?_, fun d => ⟨?_, addrByte_and_not_dirMask p a d⟩⟩
  · have hdir := congrArg (· &&& p.regMap.dirMask) h
    simp only [addrByte_and_dirMask] at hdir
    exact dirRead_ne_dirWrite p hdir
  · have hflip : (a ^^^ p.regMap.dirMask) &&& ~~~p.regMap.dirMask = a &&& ~~~p.regMap.dirMask := by
      ext i
      simp only [BitVec.getElem_and, BitVec.getElem_xor, BitVec.getElem_not]
      cases a[i] <;> cases p.regMap.dirMask[i] <;> rfl
    rw [addrByte, addrByte, hflip]

/-! ### What each operand format accepts (R89) -/

theorem operands0_eq_instr_iff {i j : Instr} {operands : List Byte} :
    operands0 j operands = .instr i ↔ operands = [] ∧ j = i := by
  cases operands <;> simp [operands0]

theorem operands1_eq_instr_iff {f : Byte → Decoded} {i : Instr} {operands : List Byte} :
    operands1 f operands = .instr i ↔ ∃ a, operands = [a] ∧ f a = .instr i := by
  unfold operands1
  split <;> simp_all

theorem operands2_eq_instr_iff {f : Byte → Byte → Instr} {i : Instr} {operands : List Byte} :
    operands2 f operands = .instr i ↔ ∃ a b, operands = [a, b] ∧ f a b = i := by
  unfold operands2
  split <;> simp_all

theorem operands3_eq_instr_iff {f : Byte → Byte → Byte → Instr} {i : Instr} {operands : List Byte} :
    operands3 f operands = .instr i ↔ ∃ a b c, operands = [a, b, c] ∧ f a b c = i := by
  unfold operands3
  split <;> simp_all

theorem operandsCounted_eq_instr_iff {f : Byte → List Byte → Instr} {i : Instr} {operands : List Byte} :
    operandsCounted f operands = .instr i ↔
      ∃ a n bytes, operands = a :: n :: bytes ∧ bytes.length = n.toNat ∧ f a bytes = i := by
  unfold operandsCounted
  split
  · split_ifs with hlen <;> simp_all
  · simp_all

theorem pairsOf_bytesOfPairs (cfg : List (Byte × Byte)) : pairsOf (bytesOfPairs cfg) = some cfg := by
  induction cfg with
  | nil => rfl
  | cons c cfg ih => simp [bytesOfPairs, pairsOf, ih]

theorem bytesOfPairs_of_pairsOf (bytes : List Byte) :
    ∀ cfg, pairsOf bytes = some cfg → bytesOfPairs cfg = bytes := by
  induction bytes using pairsOf.induct with
  | case1 => intro cfg h; cases h; rfl
  | case2 b => intro cfg h; cases h
  | case3 a v rest ih =>
    intro cfg h
    obtain ⟨tail, htail, rfl⟩ := Option.map_eq_some_iff.mp h
    rw [bytesOfPairs, ih tail htail]

theorem operandsPairs_eq_instr_iff {i : Instr} {operands : List Byte} :
    operandsPairs operands = .instr i ↔
      ∃ k cfg, operands = k :: bytesOfPairs cfg ∧ cfg.length = k.toNat ∧ i = .setup cfg := by
  constructor
  · intro h
    unfold operandsPairs at h
    split at h
    · rename_i k rest
      split at h
      · rename_i cfg hcfg
        split_ifs at h with hlen
        cases h
        exact ⟨k, cfg, by rw [bytesOfPairs_of_pairsOf rest cfg hcfg], hlen, rfl⟩
      · cases h
    · cases h
  · rintro ⟨k, cfg, rfl, hlen, rfl⟩
    simp [operandsPairs, pairsOf_bytesOfPairs, hlen]

theorem opMode_ofByte_eq_some_iff {b : Byte} {m : OpMode} : OpMode.ofByte b = some m ↔ b = m.byte := by
  unfold OpMode.ofByte
  cases m <;> split_ifs <;> simp_all [OpMode.byte]

theorem flag_ofByte_eq_some_iff {b : Byte} {f : Flag} : Flag.ofByte b = some f ↔ b = f.byte := by
  unfold Flag.ofByte
  cases f <;> split_ifs <;> simp_all [Flag.byte]

theorem decodeMode_eq_instr_iff {b : Byte} {i : Instr} : decodeMode b = .instr i ↔ ∃ m, b = m.byte ∧ i = .mode m := by
  unfold decodeMode
  constructor
  · intro h
    split at h
    · rename_i m hm
      cases h
      exact ⟨m, opMode_ofByte_eq_some_iff.mp hm, rfl⟩
    · cases h
  · rintro ⟨m, hm, rfl⟩
    rw [opMode_ofByte_eq_some_iff.mpr hm]

theorem decodeFlag_eq_instr_iff {b : Byte} {i : Instr} : decodeFlag b = .instr i ↔ ∃ f, b = f.byte ∧ i = .waitf f := by
  unfold decodeFlag
  constructor
  · intro h
    split at h
    · rename_i f hf
      cases h
      exact ⟨f, flag_ofByte_eq_some_iff.mp hf, rfl⟩
    · cases h
  · rintro ⟨f, hf, rfl⟩
    rw [flag_ofByte_eq_some_iff.mpr hf]

theorem opcode_ofByte_eq_some_iff {b : Byte} {o : Opcode} : Opcode.ofByte b = some o ↔ b = o.byte := by
  constructor
  · intro h
    have hbyte : (o.byte == b) = true := List.find?_some (p := fun o : Opcode => o.byte == b) h
    exact (beq_iff_eq.mp hbyte).symm
  · rintro rfl
    cases o <;> rfl

theorem decodeCmd_eq_instr_iff {op : Byte} {operands : List Byte} {i : Instr} :
    decodeCmd op operands = .instr i ↔ ∃ o : Opcode, op = o.byte ∧ decodeOperands operands o = .instr i := by
  constructor
  · intro h
    unfold decodeCmd at h
    split at h
    · rename_i o ho
      exact ⟨o, opcode_ofByte_eq_some_iff.mp ho, h⟩
    · cases h
  · rintro ⟨o, rfl, h⟩
    rwa [decodeCmd_byte]

theorem opcode_byte_injective {o o' : Opcode} (h : o.byte = o'.byte) : o = o' :=
  Option.some.inj ((opcode_ofByte_eq_some_iff.mpr rfl).symm.trans (opcode_ofByte_eq_some_iff.mpr h))

theorem toNat_ofNat_of_le {n : Nat} (h : n ≤ 255) : (BitVec.ofNat 8 n).toNat = n := by
  rw [BitVec.toNat_ofNat]
  omega

theorem ofNat_of_eq_toNat {n : Nat} {b : Byte} (h : n = b.toNat) : BitVec.ofNat 8 n = b ∧ n ≤ 255 := by
  have hb : b.toNat < 256 := b.isLt
  subst h
  exact ⟨BitVec.ofNat_toNat 8 b ▸ by simp, by omega⟩

/-! ### Round trips -/

theorem decodeCmd_encode (p : Params) {i : Instr} (hcmd : i.format = .cmd) (hwf : i.wf p = true) :
    decode p .cmd (encode p i) = .instr i := by
  cases i with
  | busR1 | busW1 | busRN | busWN | fifoFrame => cases hcmd
  | bwr a bytes =>
    simp only [Instr.wf, decide_eq_true_eq] at hwf
    exact (decodeCmd_byte .bwr (a :: BitVec.ofNat 8 bytes.length :: bytes)).trans
      (operandsCounted_of_length _ (toNat_ofNat_of_le hwf).symm)
  | send dst payload =>
    simp only [Instr.wf, decide_eq_true_eq] at hwf
    exact (decodeCmd_byte .send (dst :: BitVec.ofNat 8 payload.length :: payload)).trans
      (operandsCounted_of_length _ (toNat_ofNat_of_le hwf).symm)
  | setup cfg =>
    simp only [Instr.wf, decide_eq_true_eq] at hwf
    exact (decodeCmd_byte .setup _).trans
      (operandsPairs_eq_instr_iff.mpr ⟨_, cfg, rfl, (toNat_ofNat_of_le hwf).symm, rfl⟩)
  | mode m =>
    exact (decodeCmd_byte .mode _).trans
      (operands1_eq_instr_iff.mpr ⟨_, rfl, decodeMode_eq_instr_iff.mpr ⟨m, rfl, rfl⟩⟩)
  | waitf f =>
    exact (decodeCmd_byte .waitf _).trans
      (operands1_eq_instr_iff.mpr ⟨_, rfl, decodeFlag_eq_instr_iff.mpr ⟨f, rfl, rfl⟩⟩)
  | rd | wr | ed | brd | pwr | rstp | sync | rxs => rfl

theorem decodeBus_read (p : Params) {a : Byte} (n : Nat) (ha : a &&& p.regMap.dirMask = 0) :
    decodeBus p.regMap (frameRN p.regMap a n) = .instr (if n = 1 then .busR1 a else .busRN a n) := by
  have hdir : addrByte p.regMap a .read &&& p.regMap.dirMask ≠ p.regMap.dirWrite := by
    rw [addrByte_and_dirMask]
    exact dirRead_ne_dirWrite p
  have haddr : addrByte p.regMap a .read &&& ~~~p.regMap.dirMask = a := by
    rw [addrByte_and_not_dirMask, and_not_of_and_eq_zero ha]
  simp only [frameRN, decodeBus, hdir, haddr, if_false, List.length_replicate, if_true]
  split_ifs <;> rfl

section
variable (p : Params) {a : Byte} (ha : a &&& p.regMap.dirMask = 0)
include ha

theorem addrByte_write_decodes :
    addrByte p.regMap a .write &&& p.regMap.dirMask = p.regMap.dirWrite ∧
    addrByte p.regMap a .write &&& ~~~p.regMap.dirMask = a :=
  ⟨addrByte_and_dirMask p a .write, by rw [addrByte_and_not_dirMask, and_not_of_and_eq_zero ha]⟩

theorem decodeBus_writeOne (v : Byte) : decodeBus p.regMap (frameW1 p.regMap a v) = .instr (.busW1 a v) := by
  obtain ⟨hdir, haddr⟩ := addrByte_write_decodes p ha
  simp [frameW1, decodeBus, hdir, haddr]

theorem decodeBus_writeBurst {bytes : List Byte} (hlen : bytes.length ≠ 1) :
    decodeBus p.regMap (frameWN p.regMap a bytes) = .instr (.busWN a bytes) := by
  obtain ⟨hdir, haddr⟩ := addrByte_write_decodes p ha
  simp only [frameWN, decodeBus, hdir, haddr, if_true]
  split
  · exact absurd rfl hlen
  · rfl

end

/-- Settles O41: one case for each form of encoding. -/
theorem decodeEncode : Obligations.DecodeEncode := by
  intro p i hwf
  cases i with
  | busR1 a =>
    simp only [Instr.wf, beq_iff_eq] at hwf
    exact decodeBus_read p 1 hwf
  | busRN a n =>
    simp only [Instr.wf, Bool.and_eq_true, beq_iff_eq, bne_iff_ne] at hwf
    exact (decodeBus_read p n hwf.1).trans (by rw [if_neg hwf.2])
  | busW1 a v =>
    simp only [Instr.wf, beq_iff_eq] at hwf
    exact decodeBus_writeOne p hwf v
  | busWN a bytes =>
    simp only [Instr.wf, Bool.and_eq_true, beq_iff_eq, bne_iff_ne] at hwf
    exact decodeBus_writeBurst p hwf.1 hwf.2
  | fifoFrame len dst src ctl payload =>
    simp only [Instr.wf, Bool.and_eq_true, beq_iff_eq] at hwf
    exact if_pos hwf.2
  | _ => exact decodeCmd_encode p rfl hwf

/-- What the operands of an opcode decode to is well formed, and its encoding is those bytes (R89). -/
theorem encode_of_decodeOperands (p : Params) {o : Opcode} {operands : List Byte} {i : Instr}
    (h : decodeOperands operands o = .instr i) : i.wf p = true ∧ encode p i = o.byte :: operands := by
  cases o with
  | rd | pwr | sync =>
    obtain ⟨a, rfl, h⟩ := operands1_eq_instr_iff.mp h
    cases h
    exact ⟨rfl, rfl⟩
  | wr | brd =>
    obtain ⟨a, b, rfl, rfl⟩ := operands2_eq_instr_iff.mp h
    exact ⟨rfl, rfl⟩
  | ed =>
    obtain ⟨a, b, c, rfl, rfl⟩ := operands3_eq_instr_iff.mp h
    exact ⟨rfl, rfl⟩
  | rstp | rxs =>
    obtain ⟨rfl, rfl⟩ := operands0_eq_instr_iff.mp h
    exact ⟨rfl, rfl⟩
  | bwr | send =>
    obtain ⟨a, n, bytes, rfl, hlen, rfl⟩ := operandsCounted_eq_instr_iff.mp h
    obtain ⟨hcount, hle⟩ := ofNat_of_eq_toNat hlen
    exact ⟨decide_eq_true hle, by rw [encode, hcount]⟩
  | setup =>
    obtain ⟨k, cfg, rfl, hlen, rfl⟩ := operandsPairs_eq_instr_iff.mp h
    obtain ⟨hcount, hle⟩ := ofNat_of_eq_toNat hlen
    exact ⟨decide_eq_true hle, by rw [encode, hcount]⟩
  | mode =>
    obtain ⟨a, rfl, h⟩ := operands1_eq_instr_iff.mp h
    obtain ⟨m, rfl, rfl⟩ := decodeMode_eq_instr_iff.mp h
    exact ⟨rfl, rfl⟩
  | waitf =>
    obtain ⟨a, rfl, h⟩ := operands1_eq_instr_iff.mp h
    obtain ⟨f, rfl, rfl⟩ := decodeFlag_eq_instr_iff.mp h
    exact ⟨rfl, rfl⟩

/-- What the bus decoder accepts is a well-formed frame, and its encoding is those bytes (R80 to R85). -/
theorem encode_of_decodeBus (p : Params) {bytes : List Byte} {i : Instr} (h : decodeBus p.regMap bytes = .instr i) :
    i.wf p = true ∧ i.format = .bus ∧ encode p i = bytes := by
  cases bytes with
  | nil => cases h
  | cons b data =>
    have haddr : (b &&& ~~~p.regMap.dirMask) &&& p.regMap.dirMask = 0 := and_not_and b p.regMap.dirMask
    simp only [decodeBus] at h
    split_ifs at h with hwrite hfill hone
    · have hb := addrByte_of_and_dirMask p (d := .write) hwrite
      split at h <;> cases h
      · exact ⟨by simp [Instr.wf, haddr], rfl, by simp [encode, frameW1, hb]⟩
      · rename_i hdata
        have hlen : data.length ≠ 1 := fun hlen => by
          obtain ⟨v, rfl⟩ := List.length_eq_one_iff.mp hlen
          exact hdata v rfl
        exact ⟨by simp [Instr.wf, haddr, hlen], rfl, by simp [encode, frameWN, hb]⟩
    all_goals
      have hread := (and_dirMask_cases p b).resolve_right hwrite
      have hb := addrByte_of_and_dirMask p (d := .read) hread
      cases h
    · refine ⟨by simp [Instr.wf, haddr], rfl, ?_⟩
      rw [encode, frameR1, hb, hfill, hone]
      rfl
    · exact ⟨by simp [Instr.wf, haddr, hone], rfl, by rw [encode, frameRN, hb, ← hfill]⟩

/-- What the FIFO decoder accepts is a well-formed frame, and its encoding is those bytes (R86). -/
theorem encode_of_decodeFifo (p : Params) {bytes : List Byte} {i : Instr} (h : decodeFifo bytes = .instr i) :
    i.wf p = true ∧ i.format = .fifo ∧ encode p i = bytes := by
  unfold decodeFifo at h
  split at h
  · rename_i len dst src ctl payload
    split_ifs at h with hlen
    cases h
    have hbyte : len.toNat < 256 := len.isLt
    have hle : payload.length ≤ 252 := by
      simp only [Config.headerLen] at hlen
      omega
    exact ⟨by simpa [Instr.wf, hle, Config.headerLen] using hlen, rfl, rfl⟩
  · cases h

/-- Settles O42: by format; a command's bytes are its opcode's and the operands the opcode's format accepts. -/
theorem decodeAcceptsOnlyEncodings : Obligations.DecodeAcceptsOnlyEncodings := by
  intro p f bytes i h
  cases f with
  | cmd =>
    cases bytes with
    | nil => cases h
    | cons op operands =>
      obtain ⟨o, rfl, hoperands⟩ := decodeCmd_eq_instr_iff.mp h
      obtain ⟨hwf, hencode⟩ := encode_of_decodeOperands p hoperands
      exact ⟨hwf, format_of_decodeOperands hoperands, hencode⟩
  | bus => exact encode_of_decodeBus p h
  | fifo => exact encode_of_decodeFifo p h

/-- Settles O43: each word is evaluated. -/
theorem sampleWords : Obligations.SampleWords := by
  unfold Obligations.SampleWords
  decide

/-! ### Illegal commands (R92) -/

/-- An opcode's operands decode only in the number the opcode asks for (R89). -/
theorem length_of_decodeOperands {o : Opcode} {operands : List Byte} {i : Instr}
    (h : decodeOperands operands o = .instr i) : operands.length = o.operandCount operands := by
  cases o with
  | rd | pwr | sync | mode | waitf =>
    obtain ⟨a, rfl, -⟩ := operands1_eq_instr_iff.mp h
    rfl
  | wr | brd =>
    obtain ⟨a, b, rfl, -⟩ := operands2_eq_instr_iff.mp h
    rfl
  | ed =>
    obtain ⟨a, b, c, rfl, -⟩ := operands3_eq_instr_iff.mp h
    rfl
  | rstp | rxs =>
    obtain ⟨rfl, -⟩ := operands0_eq_instr_iff.mp h
    rfl
  | bwr | send =>
    obtain ⟨a, n, bytes, rfl, hlen, -⟩ := operandsCounted_eq_instr_iff.mp h
    simp only [Opcode.operandCount, List.length_cons, hlen, List.getD_cons_succ, List.getD_cons_zero]
    omega
  | setup =>
    obtain ⟨k, cfg, rfl, hlen, -⟩ := operandsPairs_eq_instr_iff.mp h
    simp [Opcode.operandCount, Laws.length_bytesOfPairs, hlen, Nat.add_comm]

theorem byte_mem_opcodes (o : Opcode) :
    o.byte ∈ ([0x01, 0x02, 0x03, 0x04, 0x05, 0x10, 0x20, 0x21, 0x22, 0x30, 0x31, 0x40, 0x50] : List Byte) := by
  cases o <;> decide

theorem opMode_byte_le (m : OpMode) : m.byte.toNat ≤ 2 := by cases m <;> decide

theorem flag_byte_le (f : Flag) : f.byte.toNat ≤ 1 := by cases f <;> decide

/-- At `Idle` bytes that are no encoding of a command are refused (R258 step 2). -/
theorem step_cmd_not_decoded {s : State} {op : Byte} {operands : List Byte} {rest : List Turn} (hs : s.seq = .idle)
    (henv : s.env = .cmd op operands :: rest) (h : ∀ i, decodeCmd op operands ≠ .instr i) :
    step s = .next ((s.withEnv rest).refuse (.illegalCommand op)) := by
  cases hdec : decodeCmd op operands with
  | instr i => exact absurd hdec (h i)
  | reject r => exact step_cmd_illegal henv hs hdec

/-- Settles O44: on each of the four grounds the bytes decode to no command. -/
theorem illegalCommandRefused : Obligations.IllegalCommandRefused := by
  intro s op operands rest hs henv hground
  refine step_cmd_not_decoded hs henv fun i hdec => ?_
  obtain ⟨o, rfl, hoperands⟩ := decodeCmd_eq_instr_iff.mp hdec
  rcases hground with hop | ⟨hop, m, rfl, hm⟩ | ⟨hop, f, rfl, hf⟩ | ⟨o', ho', hlen⟩
  · exact hop (byte_mem_opcodes o)
  · obtain rfl : o = .mode := opcode_byte_injective hop
    obtain ⟨m', rfl, -⟩ := decodeMode_eq_instr_iff.mp hoperands
    exact absurd (opMode_byte_le m') (by omega)
  · obtain rfl : o = .waitf := opcode_byte_injective hop
    obtain ⟨f', rfl, -⟩ := decodeFlag_eq_instr_iff.mp hoperands
    exact absurd (flag_byte_le f') (by omega)
  · obtain rfl : o = o' := opcode_byte_injective (opcode_ofByte_eq_some_iff.mp ho')
    exact hlen (length_of_decodeOperands hoperands)

end Sys2Proof.Machine
end

section
/-! PROOFS: reasoning rules. For each shared line, what it takes for a property to hold however a turn completes it; for a
step, what it takes for a property to hold whatever the next turn is. -/

namespace Sys2Proof.Machine

/-! ### Rules of the shared lines (R13) -/

section
variable {P : State → Prop} {s : State}

/-- A failing poke is reported or skipped, as the policy says (R122). -/
theorem holds_tryErr_iff {skip : State → State} {fail : Err → State → State} {e : Err} {u : State} :
    P (tryErr skip fail e u) ↔
      (u.params.pokePolicy = .strict → P (fail e u)) ∧ (u.params.pokePolicy = .bestEffort → P (skip u)) := by
  unfold tryErr
  split <;> rename_i hpolicy <;> simp [hpolicy]

/-- The unlabelled lines above a read happen with either answer (R13). -/
theorem after_readLine (r : RegMap) (a : Byte) (ok : Byte → State → State) (fail : Err → State → State)
    (pre : State → State) :
    (readLine r a ok fail).after pre = readLine r a (fun v t => ok v (pre t)) (fun e t => fail e (pre t)) := rfl

theorem after_writeLine (r : RegMap) (a v : Byte) (ok : State → State) (fail : Err → State → State)
    (pre : State → State) :
    (writeLine r a v ok fail).after pre = writeLine r a v (fun t => ok (pre t)) (fun e t => fail e (pre t)) := rfl

@[simp] theorem keeps_readLine {r : RegMap} {a : Byte} {ok : Byte → State → State} {fail : Err → State → State} :
    (readLine r a ok fail).Keeps P s ↔
      (∀ x v, P (ok v (s.transact (frameR1 r a) (.ok [x, v])))) ∧
      P (fail (.busError (addrByte r a .read)) (s.transact (frameR1 r a) .err)) := by
  refine and_congr ⟨fun h x v => h [x, v] rfl, fun h rx hrx => ?_⟩ Iff.rfl
  obtain ⟨x, v, rfl⟩ := List.length_eq_two.mp hrx
  exact h x v

@[simp] theorem keeps_writeLine {r : RegMap} {a v : Byte} {ok : State → State} {fail : Err → State → State} :
    (writeLine r a v ok fail).Keeps P s ↔
      (∀ x y, P (ok (s.transact (frameW1 r a v) (.ok [x, y])))) ∧
      P (fail (.busError (addrByte r a .write)) (s.transact (frameW1 r a v) .err)) := by
  refine and_congr ⟨fun h x y => h [x, y] rfl, fun h rx hrx => ?_⟩ Iff.rfl
  obtain ⟨x, y, rfl⟩ := List.length_eq_two.mp hrx
  exact h x y

@[simp] theorem keeps_burstReadLine {r : RegMap} {a : Byte} {n : Nat} {ok : List Byte → State → State}
    {fail : Err → State → State} :
    (burstReadLine r a n ok fail).Keeps P s ↔
      (∀ x d, d.length = n → P (ok d (s.transact (frameRN r a n) (.ok (x :: d))))) ∧
      P (fail (.busError (addrByte r a .read)) (s.transact (frameRN r a n) .err)) := by
  refine and_congr ⟨fun h x d hd => h (x :: d) (by simp [hd]), fun h rx hrx => ?_⟩ Iff.rfl
  rw [length_frameRN] at hrx
  obtain ⟨x, d, rfl⟩ := List.exists_cons_of_length_eq_add_one hrx
  exact h x d (by simpa using hrx)

@[simp] theorem keeps_burstWriteLine {r : RegMap} {a : Byte} {bytes : List Byte} {ok : State → State}
    {fail : Err → State → State} :
    (burstWriteLine r a bytes ok fail).Keeps P s ↔
      (∀ rx : List Byte, rx.length = bytes.length + 1 → P (ok (s.transact (frameWN r a bytes) (.ok rx)))) ∧
      P (fail (.busError (addrByte r a .write)) (s.transact (frameWN r a bytes) .err)) := Iff.rfl

@[simp] theorem keeps_editLine_e1 {u : State} {a : Byte} {fn : Byte → Byte} {at2 ok : State → State}
    {fail : Err → State → State} :
    (editLine u a fn at2 ok fail .e1).Keeps P s ↔
      (∀ x v, P (at2 ((s.transact (frameR1 u.params.regMap a) (.ok [x, v])).latchEdit v))) ∧
      P (fail (.busError (addrByte u.params.regMap a .read)) (s.transact (frameR1 u.params.regMap a) .err)) := by
  rw [editLine, keeps_readLine]

@[simp] theorem keeps_editLine_e2 {u : State} {a : Byte} {fn : Byte → Byte} {at2 ok : State → State}
    {fail : Err → State → State} :
    (editLine u a fn at2 ok fail .e2).Keeps P s ↔
      (∀ x y, P (ok (s.transact (frameW1 u.params.regMap a (fn u.editOld)) (.ok [x, y])))) ∧
      P (fail (.busError (addrByte u.params.regMap a .write))
        (s.transact (frameW1 u.params.regMap a (fn u.editOld)) .err)) := by
  rw [editLine, keeps_writeLine]

/-! A poke's failure has two continuations, by the policy (R122). -/

@[simp] theorem keeps_pokeWriteLine {r : RegMap} {a v : Byte} {ok : State → State} {fail : Err → State → State} :
    (pokeWriteLine r a v ok fail).Keeps P s ↔
      (∀ x y, P (ok (s.transact (frameW1 r a v) (.ok [x, y])))) ∧
      (s.params.pokePolicy = .strict → P (fail (.busError (addrByte r a .write)) (s.transact (frameW1 r a v) .err))) ∧
      (s.params.pokePolicy = .bestEffort → P (ok (s.transact (frameW1 r a v) .err))) := by
  rw [pokeWriteLine, keeps_writeLine, holds_tryErr_iff (P := P)]
  rfl

@[simp] theorem keeps_pokeEditLine_e1 {u : State} {a : Byte} {fn : Byte → Byte} {at2 ok skip : State → State}
    {fail : Err → State → State} :
    (pokeEditLine u a fn at2 ok skip fail .e1).Keeps P s ↔
      (∀ x v, P (at2 ((s.transact (frameR1 u.params.regMap a) (.ok [x, v])).latchEdit v))) ∧
      (s.params.pokePolicy = .strict →
        P (fail (.busError (addrByte u.params.regMap a .read)) (s.transact (frameR1 u.params.regMap a) .err))) ∧
      (s.params.pokePolicy = .bestEffort → P (skip (s.transact (frameR1 u.params.regMap a) .err))) := by
  rw [pokeEditLine, keeps_editLine_e1, holds_tryErr_iff (P := P)]
  rfl

@[simp] theorem keeps_pokeEditLine_e2 {u : State} {a : Byte} {fn : Byte → Byte} {at2 ok skip : State → State}
    {fail : Err → State → State} :
    (pokeEditLine u a fn at2 ok skip fail .e2).Keeps P s ↔
      (∀ x y, P (ok (s.transact (frameW1 u.params.regMap a (fn u.editOld)) (.ok [x, y])))) ∧
      (s.params.pokePolicy = .strict → P (fail (.busError (addrByte u.params.regMap a .write))
        (s.transact (frameW1 u.params.regMap a (fn u.editOld)) .err))) ∧
      (s.params.pokePolicy = .bestEffort → P (skip (s.transact (frameW1 u.params.regMap a (fn u.editOld)) .err))) := by
  rw [pokeEditLine, keeps_editLine_e2, holds_tryErr_iff (P := P)]
  rfl

/-- The read of `MODE`: the shadow holds no value whatever the answer (R170). -/
@[simp] theorem keeps_modeLine_e1 {u : State} {m : OpMode} {at2 ok : State → State} {fail : Err → State → State} :
    (modeLine u m at2 ok fail .e1).Keeps P s ↔
      (∀ x v, P (at2 ((s.transact (frameR1 u.params.regMap u.params.regMap.aOpmode) (.ok [x, v])).clearShadow.latchEdit v))) ∧
      (s.params.pokePolicy = .strict → P (fail (.busError (addrByte u.params.regMap u.params.regMap.aOpmode .read))
        (s.transact (frameR1 u.params.regMap u.params.regMap.aOpmode) .err).clearShadow)) ∧
      (s.params.pokePolicy = .bestEffort →
        P (ok (s.transact (frameR1 u.params.regMap u.params.regMap.aOpmode) .err).clearShadow)) := by
  rw [modeLine, pokeEditLine, editLine, after_readLine, keeps_readLine, holds_tryErr_iff (P := P)]
  rfl

/-- The write of `MODE`: the shadow takes the mode when it is answered (R170). -/
@[simp] theorem keeps_modeLine_e2 {u : State} {m : OpMode} {at2 ok : State → State} {fail : Err → State → State} :
    (modeLine u m at2 ok fail .e2).Keeps P s ↔
      (∀ x y, P (ok ((s.transact (frameW1 u.params.regMap u.params.regMap.aOpmode (modeFn u.params.regMap m u.editOld))
        (.ok [x, y])).setShadow m))) ∧
      (s.params.pokePolicy = .strict → P (fail (.busError (addrByte u.params.regMap u.params.regMap.aOpmode .write))
        (s.transact (frameW1 u.params.regMap u.params.regMap.aOpmode (modeFn u.params.regMap m u.editOld)) .err))) ∧
      (s.params.pokePolicy = .bestEffort →
        P (ok (s.transact (frameW1 u.params.regMap u.params.regMap.aOpmode (modeFn u.params.regMap m u.editOld)) .err))) :=
  keeps_pokeEditLine_e2

/-- A line of the recipe: the next, or the line after the recipe, answered or skipped (R133). -/
@[simp] theorem keeps_recipeLine {p : Params} {d : Int} {goto : RecipeLine → State → State} {ok : State → State}
    {fail : Err → State → State} {l : RecipeLine} :
    (recipeLine p d goto ok fail l).Keeps P s ↔
      (∀ x y, P (l.advance goto ok
        (s.transact (frameW1 p.regMap (recipeWrite p d l).1 (recipeWrite p d l).2) (.ok [x, y])))) ∧
      (s.params.pokePolicy = .strict → P (fail (.busError (addrByte p.regMap (recipeWrite p d l).1 .write))
        (s.transact (frameW1 p.regMap (recipeWrite p d l).1 (recipeWrite p d l).2) .err))) ∧
      (s.params.pokePolicy = .bestEffort → P (l.advance goto ok
        (s.transact (frameW1 p.regMap (recipeWrite p d l).1 (recipeWrite p d l).2) .err))) :=
  keeps_pokeWriteLine

/-- A line of `PWR`: the store happens with the first (R131). -/
@[simp] theorem keeps_powerLine {u : State} {d : Int} {goto : RecipeLine → State → State} {ok : State → State}
    {fail : Err → State → State} {l : RecipeLine} :
    (powerLine u d goto ok fail l).Keeps P s ↔
      (∀ x y, P (l.advance goto ok (storeFirst d l (s.transact (frameW1 u.params.regMap
        (recipeWrite u.params (clampPower d) l).1 (recipeWrite u.params (clampPower d) l).2) (.ok [x, y]))))) ∧
      (s.params.pokePolicy = .strict →
        P (fail (.busError (addrByte u.params.regMap (recipeWrite u.params (clampPower d) l).1 .write))
          (storeFirst d l (s.transact (frameW1 u.params.regMap
            (recipeWrite u.params (clampPower d) l).1 (recipeWrite u.params (clampPower d) l).2) .err)))) ∧
      (s.params.pokePolicy = .bestEffort → P (l.advance goto ok (storeFirst d l (s.transact (frameW1 u.params.regMap
        (recipeWrite u.params (clampPower d) l).1 (recipeWrite u.params (clampPower d) l).2) .err)))) := by
  have hpolicy : ∀ t : State, (storeFirst d l t).params = t.params := fun t => by
    unfold storeFirst
    split <;> rfl
  rw [powerLine, recipeLine, pokeWriteLine, after_writeLine, keeps_writeLine, holds_tryErr_iff (P := P)]
  simp only [← storeFirst.eq_1, hpolicy]
  rfl

/-- The lines of the reset pulse (R150). -/
@[simp] theorem keeps_pulseLine_p1 {goto : PulseLine → State → State} {ok : State → State} {fail : Err → State → State} :
    (pulseLine goto ok fail .p1).Keeps P s ↔
      P (goto .p2 (s.emit (.setReset true true)).dropSetup) ∧
      P (fail (.resetLineError true) (s.emit (.setReset true false)).dropSetup) := Iff.rfl

@[simp] theorem keeps_pulseLine_p2 {goto : PulseLine → State → State} {ok : State → State} {fail : Err → State → State} :
    (pulseLine goto ok fail .p2).Keeps P s ↔ P (goto .p3 (s.emit (.hold 100))) := Iff.rfl

@[simp] theorem keeps_pulseLine_p3 {goto : PulseLine → State → State} {ok : State → State} {fail : Err → State → State} :
    (pulseLine goto ok fail .p3).Keeps P s ↔
      P (goto .p4 (s.emit (.setReset false true))) ∧
      P (fail (.resetLineError false) (s.emit (.setReset false false))) := Iff.rfl

@[simp] theorem keeps_pulseLine_p4 {goto : PulseLine → State → State} {ok : State → State} {fail : Err → State → State} :
    (pulseLine goto ok fail .p4).Keeps P s ↔ P (ok (s.emit (.hold 5000))) := Iff.rfl

/-- The read of an attempt: the sentinel ends the phase, anything else leads to the write (R152). -/
@[simp] theorem keeps_syncLine_y1 {r : RegMap} {sentinel : Byte} {goto : SyncLine → State → State} {ok : State → State}
    {fail : Err → State → State} {h : LoopHead} :
    (syncLine r sentinel goto ok fail (.y1 h)).Keeps P s ↔
      (∀ x, P (ok (h.before State.startSync (s.transact (frameR1 r r.aSync) (.ok [x, sentinel]))))) ∧
      (∀ x v, v ≠ sentinel → P (goto .y2 (h.before State.startSync (s.transact (frameR1 r r.aSync) (.ok [x, v]))))) ∧
      P (fail (.busError (addrByte r r.aSync .read)) (h.before State.startSync (s.transact (frameR1 r r.aSync) .err))) := by
  rw [syncLine, after_readLine, keeps_readLine, ← and_assoc]
  refine and_congr ⟨fun hv => ⟨fun x => by simpa using hv x sentinel, fun x v hne => by simpa [hne] using hv x v⟩,
    fun ⟨hok, hgoto⟩ x v => ?_⟩ Iff.rfl
  split_ifs with hv
  · subst hv; exact hok x
  · exact hgoto x v hv

/-- The write of an attempt: the fifteenth ends the phase, the others are counted (R152, R154). -/
@[simp] theorem keeps_syncLine_y2 {r : RegMap} {sentinel : Byte} {goto : SyncLine → State → State} {ok : State → State}
    {fail : Err → State → State} :
    (syncLine r sentinel goto ok fail .y2).Keeps P s ↔
      (∀ x y, (s.attempt = 15 → P (fail (.notSyncing sentinel) (s.transact (frameW1 r r.aSync sentinel) (.ok [x, y])))) ∧
        (s.attempt ≠ 15 →
          P (goto (.y1 .repeated) (s.transact (frameW1 r r.aSync sentinel) (.ok [x, y])).countAttempt))) ∧
      P (fail (.busError (addrByte r r.aSync .write)) (s.transact (frameW1 r r.aSync sentinel) .err)) := by
  rw [syncLine, keeps_writeLine]
  refine and_congr (forall_congr' fun x => forall_congr' fun y => ?_) Iff.rfl
  by_cases hlast : s.attempt = 15 <;> simp [hlast, Config.syncAttempts]

/-- A poll: the flag set ends it, the bound met is its failure, otherwise it is counted and repeated (R175). -/
@[simp] theorem keeps_pollLine {r : RegMap} {f : Flag} {h : LoopHead} {again ok : State → State}
    {fail : Err → State → State} :
    (pollLine r f h again ok fail).Keeps P s ↔
      (∀ x v,
        let t := h.before State.startPoll (s.transact (frameR1 r (flagAddr r f)) (.ok [x, v]))
        (flagSet v (flagMask r f) = true → P (ok t)) ∧
        (flagSet v (flagMask r f) = false → t.params.pollLimit = some (t.polls + 1) →
          P (fail (.pollTimeout f) t.countPoll)) ∧
        (flagSet v (flagMask r f) = false → t.params.pollLimit ≠ some (t.polls + 1) → P (again t.countPoll))) ∧
      P (fail (.busError (addrByte r (flagAddr r f) .read))
        (h.before State.startPoll (s.transact (frameR1 r (flagAddr r f)) .err))) := by
  rw [pollLine, after_readLine, keeps_readLine]
  refine and_congr (forall_congr' fun x => forall_congr' fun v => ?_) Iff.rfl
  by_cases hset : flagSet v (flagMask r f) = true
  · simp [hset]
  · by_cases hlast : (h.before State.startPoll (s.transact (frameR1 r (flagAddr r f)) (.ok [x, v]))).params.pollLimit =
        some ((h.before State.startPoll (s.transact (frameR1 r (flagAddr r f)) (.ok [x, v]))).polls + 1) <;>
      simp [hset, hlast]

/-! Lines with a test of their own: the end of the second phase and of a Config write of `SETUP`, `A1` and `L4` of `RXS`. -/

/-- The end of the second phase: an empty Config leads to the power, another to its first pair (R158). -/
@[simp] theorem keeps_lineSetup_s3_y1 {u : State} {cfg : List (Byte × Byte)} {h : LoopHead} :
    (lineSetup u cfg (.s3 (.y1 h))).Keeps P s ↔
      (∀ x,
        let t := h.before State.startSync
          (s.transact (frameR1 u.params.regMap u.params.regMap.aSync) (.ok [x, Config.sentinel2]))
        (t.cfg.length = 0 → P (t.firstPair.gotoPower cfg)) ∧
        (t.cfg.length ≠ 0 → P (t.firstPair.goto (.setup cfg .s4)))) ∧
      (∀ x v, v ≠ Config.sentinel2 → P ((h.before State.startSync
        (s.transact (frameR1 u.params.regMap u.params.regMap.aSync) (.ok [x, v]))).goto (.setup cfg (.s3 .y2)))) ∧
      P ((h.before State.startSync (s.transact (frameR1 u.params.regMap u.params.regMap.aSync) .err)).raiseSetup
        (.busError (addrByte u.params.regMap u.params.regMap.aSync .read))) := by
  rw [lineSetup, keeps_syncLine_y1]
  refine and_congr (forall_congr' fun x => ?_) Iff.rfl
  unfold State.gotoConfig
  split_ifs with hempty <;> simp [hempty]

/-- A write of a Config pair: the next pair, or after the last the power (R158). -/
@[simp] theorem keeps_lineSetup_s4 {u : State} {cfg : List (Byte × Byte)} :
    (lineSetup u cfg .s4).Keeps P s ↔
      (∀ x y,
        let t := s.transact
          (frameW1 u.params.regMap (u.cfg.getD u.cfgI (0, 0)).1 (u.cfg.getD u.cfgI (0, 0)).2) (.ok [x, y])
        (s.cfgI + 1 < s.cfg.length → P (t.nextPair.goto (.setup cfg .s4))) ∧
        (¬ s.cfgI + 1 < s.cfg.length → P (t.nextPair.gotoPower cfg))) ∧
      P ((s.transact (frameW1 u.params.regMap (u.cfg.getD u.cfgI (0, 0)).1 (u.cfg.getD u.cfgI (0, 0)).2) .err).raiseSetup
        (.busError (addrByte u.params.regMap (u.cfg.getD u.cfgI (0, 0)).1 .write))) := by
  rw [lineSetup, keeps_writeLine]
  refine and_congr (forall_congr' fun x => forall_congr' fun y => ?_) Iff.rfl
  by_cases hmore : s.cfgI + 1 < s.cfg.length <;> simp [hmore]

/-- The test of payload-ready: the restart where it is set, the arm where it is clear (R212, R213). -/
@[simp] theorem keeps_lineRxs_a1 {u : State} :
    (lineRxs u .a1).Keeps P s ↔
      (∀ x v,
        let t := (s.transact (frameR1 u.params.regMap u.params.regMap.aPayloadReady) (.ok [x, v])).latchFlags v
        (flagSet v s.params.regMap.mPayloadReady = true → P (t.goto (.rxs (.a1r .e1)))) ∧
        (flagSet v s.params.regMap.mPayloadReady = false → P (t.goto (.rxs .a2)))) ∧
      P ((s.transact (frameR1 u.params.regMap u.params.regMap.aPayloadReady) .err).raiseRxs
        (.busError (addrByte u.params.regMap u.params.regMap.aPayloadReady .read))) := by
  rw [lineRxs, keeps_readLine]
  refine and_congr (forall_congr' fun x => forall_congr' fun v => ?_) Iff.rfl
  by_cases hset : flagSet v s.params.regMap.mPayloadReady = true <;> simp [hset]

/-- The drain of the header: an illegal length byte ends `RXS`, a legal one leads to the payload (R224, R225). -/
@[simp] theorem keeps_lineRxs_l4 {u : State} :
    (lineRxs u .l4).Keeps P s ↔
      (∀ x h, h.length = 4 →
        let t := (s.transact (frameRN u.params.regMap u.params.regMap.aFifo 4) (.ok (x :: h))).latchHeader h
        (t.hTotal.toNat < 3 → P (t.raiseRxs (.protocolError t.hTotal))) ∧
        (3 ≤ t.hTotal.toNat → P (t.latchPlen.goto (.rxs .l6)))) ∧
      P ((s.transact (frameRN u.params.regMap u.params.regMap.aFifo 4) .err).raiseRxs
        (.busError (addrByte u.params.regMap u.params.regMap.aFifo .read))) := by
  rw [lineRxs, keeps_burstReadLine]
  refine and_congr (forall_congr' fun x => forall_congr' fun h => forall_congr' fun _ => ?_) Iff.rfl
  unfold State.checkHeader
  split_ifs with hshort
  · exact ⟨fun hP => ⟨fun _ => hP, fun hle => absurd hshort (Nat.not_lt.mpr hle)⟩, fun hP => hP.1 hshort⟩
  · exact ⟨fun hP => ⟨fun hlt => absurd hlt hshort, fun _ => hP⟩, fun hP => hP.2 (Nat.not_lt.mp hshort)⟩

end

/-! ### The rule of a step -/

/-- Everything a step can do: the turn passes, a command is refused or accepted, an edge or block reset has its effect, or the
sequencer completes the line at its position. -/
theorem step_keeps {P : State → Prop} {s t : State} (h : step s = .next t) (hpass : ∀ ts, P (s.withEnv ts))
    (hrefuse : ∀ ts e, P ((s.withEnv ts).refuse e))
    (haccept : ∀ op operands rest i p, s.env = .cmd op operands :: rest → s.seq = .idle →
      decodeCmd op operands = .instr i → s.refusal (needsSetup i) (exceedsPayload i) = none →
      firstLine s.params i = some p → P (((s.latched i).goto p).withEnv rest))
    (hirq : ∀ ts, P (s.withEnv ts).irqRise)
    (hreset : ∀ rest, s.env = .blockReset :: rest → P (s.withEnv rest).blockReset)
    (hline : ∀ p ts, s.seq = .running p → (lineAt s p).Keeps P (s.withEnv ts)) : P t := by
  obtain ⟨-, h'⟩ | ⟨op, operands, rest, henv, -⟩ | ⟨rest, -, h'⟩ | ⟨rest, henv, h'⟩ | ⟨rest, -, h'⟩ |
      ⟨turn, rest, -, -, h'⟩ := step_cases s
  · rw [h'] at h; cases h; exact hpass s.env
  · cases hs : s.seq with
    | running p =>
      rw [step_cmd_busy henv hs] at h; cases h; exact hrefuse rest .busy
    | idle =>
      cases hdec : decodeCmd op operands with
      | reject r => rw [step_cmd_illegal henv hs hdec] at h; cases h; exact hrefuse rest _
      | instr i =>
        cases href : s.refusal (needsSetup i) (exceedsPayload i) with
        | some e => rw [step_cmd_refused henv hs hdec href] at h; cases h; exact hrefuse rest e
        | none =>
          obtain ⟨p, hfirst, h'⟩ := step_cmd_accepted henv hs hdec href
          rw [h'] at h; cases h; exact haccept op operands rest i p henv hs hdec href hfirst
  · rw [h'] at h; cases h; exact hirq rest
  · rw [h'] at h; cases h; exact hreset rest henv
  · rw [h'] at h; cases h; exact hpass rest
  · rw [h'] at h
    cases h
    cases hs : s.seq with
    | idle => rw [takeLine_idle (s := s.withEnv rest) hs]; exact hpass rest
    | running p =>
      rw [takeLine_running (s := s.withEnv rest) hs, lineAt_withEnv]
      exact complete_keeps (hpass rest) (hline p rest hs) turn

end Sys2Proof.Machine
end

section
/-! PROOFS: what each operation leaves alone, and who writes the power, the set-up flag and the latch. -/

namespace Sys2Proof.Machine

/-! ### What lies outside an operation -/

/-- `s` with every register blanked that the operation `i` may write ("State written" of its rule), and `seq` and the model's
own fields with them. -/
def State.outside (i : Instr) (s : State) : State :=
  let u : State := { s with seq := .idle, busRx := none, env := [], trace := [] }
  match i with
  | .rd _ | .wr _ _ | .brd _ _ | .bwr _ _ => u
  | .ed _ _ _ => { u with editOld := 0 }
  | .pwr _ => { u with txPower := none }
  | .rstp => { u with setupDone := false, modeShadow := none }
  | .sync _ => { u with attempt := 0 }
  | .setup _ => { u with setupDone := false, modeShadow := none, attempt := 0, cfg := [], cfgI := 0, txPower := none }
  | .mode _ => { u with modeShadow := none, editOld := 0 }
  | .waitf _ => { u with polls := 0 }
  | .send _ _ => { u with txDst := 0, txPayload := [], modeShadow := none, editOld := 0, polls := 0 }
  | .rxs =>
    { u with
      evtPending := false, arbEnabled := false, errSlot := none, modeShadow := none, editOld := 0, flags := 0, rssiRaw := 0
      rssi := 0, hTotal := 0, hDst := 0, hSrc := 0, hCtl := 0, plen := 0, rxBuf := [], pktOut := ⟨0, 0, 0, []⟩ }
  | .busR1 _ | .busW1 _ _ | .busRN _ _ | .busWN _ _ | .fifoFrame _ _ _ _ _ => u

/-- From `s` to `u` only registers of the operation `i` were written, and `i` is still in progress or has ended. -/
def Within (i : Instr) (s u : State) : Prop := u.outside i = s.outside i ∧ ∀ q, u.seq = .running q → q.instr = i

/-- Keeping a property is keeping what follows from it. -/
theorem Line.Keeps.mono {P Q : State → Prop} {s : State} {l : Line} (h : l.Keeps P s) (hPQ : ∀ u, P u → Q u) :
    l.Keeps Q s := by
  cases l with
  | transfer tx ok err => exact ⟨fun rx hrx => hPQ _ (h.1 rx hrx), hPQ _ h.2⟩
  | setReset level ok err => exact ⟨hPQ _ h.1, hPQ _ h.2⟩
  | hold micros ok => exact hPQ _ h
  | free ok => exact hPQ _ h
  | wait ok => exact fun hpending => hPQ _ (h hpending)
  | offer p ok => exact hPQ _ h

/-! ### Each line keeps to its operation -/

theorem within_lineEd (u : State) (a clr set : Byte) (l : EditLine) :
    (lineEd u a clr set l).Keeps (Within (.ed a clr set) u) u := by
  cases l <;> simp [lineEd, Within, State.outside, Pos.instr]

theorem within_linePwr (u : State) (d : Byte) (l : RecipeLine) : (linePwr u d l).Keeps (Within (.pwr d) u) u := by
  cases l <;>
    simp [linePwr, Within, State.outside, Pos.instr, RecipeLine.advance, RecipeLine.next, storeFirst, RecipeLine.isFirst]

theorem within_lineRstp (u : State) (l : PulseLine) : (lineRstp l).Keeps (Within .rstp u) u := by
  cases l <;> simp [lineRstp, Within, State.outside, Pos.instr]

theorem within_lineSync (u : State) (sentinel : Byte) (l : SyncLine) :
    (lineSync u sentinel l).Keeps (Within (.sync sentinel) u) u := by
  cases l with
  | y1 h => cases h <;> simp [lineSync, Within, State.outside, Pos.instr]
  | y2 => simp [lineSync, Within, State.outside, Pos.instr]

theorem within_lineSetup (u : State) (cfg : List (Byte × Byte)) (l : SetupLine) :
    (lineSetup u cfg l).Keeps (Within (.setup cfg) u) u := by
  cases l with
  | s1 l => cases l <;> simp [lineSetup, Within, State.outside, Pos.instr]
  | s2 l =>
    cases l with
    | y1 h => cases h <;> simp [lineSetup, Within, State.outside, Pos.instr]
    | y2 => simp [lineSetup, Within, State.outside, Pos.instr]
  | s3 l =>
    cases l with
    | y1 h => cases h <;> simp [State.gotoPower, Within, State.outside, Pos.instr]
    | y2 => simp [lineSetup, Within, State.outside, Pos.instr]
  | s4 => simp [Within, State.outside, Pos.instr]
  | s5 l =>
    cases l <;>
      simp [lineSetup, Within, State.outside, Pos.instr, RecipeLine.advance, RecipeLine.next, storeFirst, RecipeLine.isFirst]

theorem within_lineMode (u : State) (m : OpMode) (l : EditLine) : (lineMode u m l).Keeps (Within (.mode m) u) u := by
  cases l <;> simp [lineMode, Within, State.outside, Pos.instr]

theorem within_lineWaitf (u : State) (f : Flag) (h : LoopHead) : (lineWaitf u f h).Keeps (Within (.waitf f) u) u := by
  cases h <;> simp [lineWaitf, Within, State.outside, Pos.instr]

theorem within_lineSend (u : State) (dst : Byte) (payload : List Byte) (l : SendLine) :
    (lineSend u dst payload l).Keeps (Within (.send dst payload) u) u := by
  cases l with
  | t1 l | t6 l | t7 l => cases l <;> simp [lineSend, Within, State.outside, Pos.instr]
  | t1w h | t6w h | t7w h => cases h <;> simp [lineSend, Within, State.outside, Pos.instr]
  | t3 l | t7p l => cases l <;> simp [lineSend, Within, State.outside, Pos.instr, RecipeLine.advance, RecipeLine.next]
  | t2 | t4 | t5 => simp [lineSend, Within, State.outside, Pos.instr]

theorem within_lineRxs (u : State) (l : RxsLine) : (lineRxs u l).Keeps (Within .rxs u) u := by
  cases l with
  | a0 | w2 | l7 => simp [lineRxs, Line.Keeps, Within, State.outside, Pos.instr]
  | a1 | l4 => simp [Within, State.outside, Pos.instr]
  | a1r l | a3 l => cases l <;> simp [lineRxs, Within, State.outside, Pos.instr]
  | a2 | a4 | a5 | l3 | l6 => simp [lineRxs, Within, State.outside, Pos.instr]

/-- A line writes only registers of its own operation, which then is still in progress or has ended. -/
theorem within_lineAt (u : State) (p : Pos) : (lineAt u p).Keeps (Within p.instr u) u := by
  cases p with
  | rd | wr | brd | bwr => simp [lineAt, lineRd, lineWr, lineBrd, lineBwr, Within, State.outside, Pos.instr]
  | ed a clr set l => exact within_lineEd u a clr set l
  | pwr d l => exact within_linePwr u d l
  | rstp l => exact within_lineRstp u l
  | sync sentinel l => exact within_lineSync u sentinel l
  | setup cfg l => exact within_lineSetup u cfg l
  | mode m l => exact within_lineMode u m l
  | waitf f h => exact within_lineWaitf u f h
  | send dst payload l => exact within_lineSend u dst payload l
  | rxs l => exact within_lineRxs u l

/-! ### An operation keeps to its registers -/

theorem outside_withEnv (i : Instr) (s : State) (ts : List Turn) : (s.withEnv ts).outside i = s.outside i := by
  cases i <;> rfl

theorem outside_refuse (i : Instr) (s : State) (e : Err) : (s.refuse e).outside i = s.outside i := by cases i <;> rfl

theorem outside_latched_goto (i : Instr) (s : State) (p : Pos) : ((s.latched i).goto p).outside i = s.outside i := by
  cases i <;> rfl

theorem Within.withEnv {i : Instr} {s u : State} (h : Within i s u) (ts : List Turn) : Within i s (u.withEnv ts) :=
  ⟨(outside_withEnv i u ts).trans h.1, h.2⟩

/-- A run of an operation's lines keeps to its registers. -/
theorem within_drive {i : Instr} {s u : State} (h : Within i s u) (ts : List Turn) : Within i s (drive ts u) := by
  refine drive_lines_keep (P := Within i s) (fun v ts hv => hv.withEnv ts) (fun v q hv hq => ?_) ts u h
  obtain rfl : q.instr = i := hv.2 q hq
  exact (within_lineAt v q).mono fun w hw => ⟨hw.1.trans hv.1, hw.2⟩

theorem instr_firstLine {q : Params} {i : Instr} {p : Pos} (h : firstLine q i = some p) : p.instr = i := by
  cases i with
  | pwr d => rw [firstLine_pwr] at h; cases h; rfl
  | busR1 | busW1 | busRN | busWN | fifoFrame => cases h
  | _ => cases h; rfl

/-- Whatever the state and the turns, a command writes only registers of its own operation. -/
theorem outside_of_exec {i : Instr} {s t : State} (hcmd : i.format = .cmd) (h : exec i s = .next t) :
    t.outside i = s.outside i := by
  obtain ⟨start, p, hfirst, hstart, hexec⟩ := exec_eq_issue_firstLine hcmd s
  rw [hexec] at h
  obtain ⟨e, -, h'⟩ | ⟨-, h'⟩ := issue_cases (needsSetup i) (exceedsPayload i) start s <;> rw [h'] at h <;> cases h
  · exact outside_refuse i s e
  · rw [hstart]
    have hfirstWithin : Within i s ((s.latched i).goto p) :=
      ⟨outside_latched_goto i s p, fun q hq => by cases hq; exact instr_firstLine hfirst⟩
    exact (within_drive hfirstWithin s.env).1

/-- A frame row writes no register of the RAC and moves no position (log 8, log 9). -/
theorem transferNow_frame {tx : List Byte} {s t : State} (h : transferNow tx s = .next t) :
    t = { s with busRx := t.busRx, env := t.env, trace := t.trace } := by
  obtain ⟨ans, rest, -, -, h'⟩ | ⟨ans, rest, -, -, h'⟩ | ⟨-, h'⟩ := transferNow_cases tx s <;>
    rw [h'] at h <;> cases h <;> rfl

/-- Settles O57: what `outside` leaves of `RD`, `WR`, `BRD`, `BWR` and `ED`; a frame row is one transaction. -/
theorem accessFrame : Obligations.AccessFrame := by
  intro i s t h
  refine ⟨?primitives, ?edit, ?frameRows⟩
  case primitives =>
    rintro (⟨a, rfl⟩ | ⟨a, v, rfl⟩ | ⟨a, n, rfl⟩ | ⟨a, bytes, rfl⟩) <;>
      exact congrArg (fun u : State => { u with seq := t.seq, busRx := t.busRx, env := t.env, trace := t.trace })
        (outside_of_exec rfl h)
  case edit =>
    rintro ⟨a, clr, set, rfl⟩
    exact congrArg (fun u : State =>
      { u with seq := t.seq, busRx := t.busRx, env := t.env, trace := t.trace, editOld := t.editOld })
      (outside_of_exec rfl h)
  case frameRows =>
    intro hformat
    cases i with
    | busR1 | busW1 | busRN | busWN | fifoFrame => exact transferNow_frame h
    | _ => exact absurd rfl hformat

/-- Settles O58: what `outside` leaves of `PWR`, `RSTP`, `SYNC` and `SETUP`. -/
theorem powerAndSyncFrame : Obligations.PowerAndSyncFrame := by
  intro s t
  refine ⟨fun p h => ?pwr, fun h => ?rstp, fun sentinel h => ?sync, fun cfg h => ?setup⟩
  case pwr =>
    exact congrArg (fun u : State =>
      { u with seq := t.seq, busRx := t.busRx, env := t.env, trace := t.trace, txPower := t.txPower })
      (outside_of_exec rfl h)
  case rstp =>
    exact congrArg (fun u : State =>
      { u with
        seq := t.seq, busRx := t.busRx, env := t.env, trace := t.trace
        setupDone := t.setupDone, modeShadow := t.modeShadow }) (outside_of_exec rfl h)
  case sync =>
    exact congrArg (fun u : State =>
      { u with seq := t.seq, busRx := t.busRx, env := t.env, trace := t.trace, attempt := t.attempt })
      (outside_of_exec rfl h)
  case setup =>
    exact congrArg (fun u : State =>
      { u with
        seq := t.seq, busRx := t.busRx, env := t.env, trace := t.trace, setupDone := t.setupDone
        modeShadow := t.modeShadow, attempt := t.attempt, cfg := t.cfg, cfgI := t.cfgI, txPower := t.txPower })
      (outside_of_exec rfl h)

/-- Settles O59: what `outside` leaves of `MODE`, `WAITF` and `SEND`. -/
theorem modeAndSendFrame : Obligations.ModeAndSendFrame := by
  intro s t
  refine ⟨fun m h => ?mode, fun f h => ?waitf, fun dst payload h => ?send⟩
  case mode =>
    exact congrArg (fun u : State =>
      { u with
        seq := t.seq, busRx := t.busRx, env := t.env, trace := t.trace
        modeShadow := t.modeShadow, editOld := t.editOld }) (outside_of_exec rfl h)
  case waitf =>
    exact congrArg (fun u : State =>
      { u with seq := t.seq, busRx := t.busRx, env := t.env, trace := t.trace, polls := t.polls })
      (outside_of_exec rfl h)
  case send =>
    exact congrArg (fun u : State =>
      { u with
        seq := t.seq, busRx := t.busRx, env := t.env, trace := t.trace, txDst := t.txDst, txPayload := t.txPayload
        modeShadow := t.modeShadow, editOld := t.editOld, polls := t.polls }) (outside_of_exec rfl h)

theorem outside_rxs_irqRise (s : State) : s.irqRise.outside .rxs = s.outside .rxs := by
  unfold State.irqRise
  split <;> rfl

/-- A step with `RXS` in progress writes only its registers, whichever agent's the turn is but block reset. -/
theorem outside_rxs_of_step {s t : State} {l : RxsLine} (hs : s.seq = .running (.rxs l))
    (hreset : ∀ rest, s.env ≠ .blockReset :: rest) (h : step s = .next t) : t.outside .rxs = s.outside .rxs := by
  refine step_keeps (P := fun u => u.outside .rxs = s.outside .rxs) h (outside_withEnv .rxs s)
    (fun ts e => (outside_refuse ..).trans (outside_withEnv ..)) ?accept
    (fun ts => (outside_rxs_irqRise _).trans (outside_withEnv ..)) (fun rest henv => absurd henv (hreset rest)) ?line
  case accept =>
    intro op operands rest i p henv hidle
    rw [hidle] at hs
    cases hs
  case line =>
    intro p ts hp
    obtain rfl : p = .rxs l := by rw [hs] at hp; cases hp; rfl
    exact (within_lineRxs (s.withEnv ts) l).mono fun v hv => hv.1.trans (outside_withEnv ..)

theorem outside_rxs_of_drive {s : State} {l : RxsLine} (hs : s.seq = .running (.rxs l)) (ts : List Turn) :
    (drive ts s).outside .rxs = s.outside .rxs :=
  (within_drive ⟨rfl, fun q hq => by rw [hs] at hq; cases hq; rfl⟩ ts).1

/-- Settles O60: what `outside` leaves of `RXS`, from its acceptance, in a step and in a run of lines. -/
theorem rxsFrame : Obligations.RxsFrame := by
  intro s t h
  have houtside : t.outside .rxs = s.outside .rxs := by
    obtain h | ⟨⟨l, hs⟩, hreset, hstep | rfl⟩ := h
    · exact outside_of_exec rfl h
    · exact outside_rxs_of_step hs hreset hstep
    · exact outside_rxs_of_drive hs s.env
  exact congrArg (fun u : State =>
    { u with
      seq := t.seq, busRx := t.busRx, env := t.env, trace := t.trace, evtPending := t.evtPending
      arbEnabled := t.arbEnabled, errSlot := t.errSlot, modeShadow := t.modeShadow, editOld := t.editOld
      flags := t.flags, rssiRaw := t.rssiRaw, rssi := t.rssi, hTotal := t.hTotal, hDst := t.hDst, hSrc := t.hSrc
      hCtl := t.hCtl, plen := t.plen, rxBuf := t.rxBuf, pktOut := t.pktOut }) houtside

/-! ### What every step leaves alone -/

theorem params_of_outside {i : Instr} {s u : State} (h : u.outside i = s.outside i) : u.params = s.params := by
  cases i
  all_goals
    have heq := congrArg State.params h
    exact heq

@[simp] theorem latched_params (i : Instr) (s : State) : (s.latched i).params = s.params := by cases i <;> rfl
@[simp] theorem latched_setupDone (i : Instr) (s : State) : (s.latched i).setupDone = s.setupDone := by cases i <;> rfl
@[simp] theorem latched_txPower (i : Instr) (s : State) : (s.latched i).txPower = s.txPower := by cases i <;> rfl
@[simp] theorem latched_modeShadow (i : Instr) (s : State) : (s.latched i).modeShadow = s.modeShadow := by cases i <;> rfl
@[simp] theorem latched_evtPending (i : Instr) (s : State) : (s.latched i).evtPending = s.evtPending := by cases i <;> rfl
@[simp] theorem latched_arbEnabled (i : Instr) (s : State) : (s.latched i).arbEnabled = s.arbEnabled := by cases i <;> rfl
@[simp] theorem latched_errSlot (i : Instr) (s : State) : (s.latched i).errSlot = s.errSlot := by cases i <;> rfl
@[simp] theorem latched_trace (i : Instr) (s : State) : (s.latched i).trace = s.trace := by cases i <;> rfl

/-- An edge writes nothing but the latch (R230). -/
theorem irqRise_eq (s : State) : s.irqRise = { s with evtPending := s.arbEnabled || s.evtPending } := by
  unfold State.irqRise
  split <;> apply State.ext <;> simp_all

/-- Settles O39: an edge is the arbiter's one rule, in every state. -/
theorem arbiterRule : Obligations.ArbiterRule := by
  intro s rest henv
  have hstep : step s = .next (s.withEnv rest).irqRise := by simp [step, turn, henv]
  rw [hstep, irqRise_eq]
  rfl

/-- Settles O52: no line writes the parameters, and no other turn does. -/
theorem parametersNeverWritten : Obligations.ParametersNeverWritten := by
  intro s t h
  refine step_keeps (P := fun u => u.params = s.params) h (fun _ => rfl) (fun _ _ => rfl)
    (fun _ _ _ i p _ _ _ _ _ => latched_params i s) (fun ts => by rw [irqRise_eq]; rfl) (fun _ _ => rfl) ?line
  exact fun p ts _ => (within_lineAt (s.withEnv ts) p).mono fun u hu => params_of_outside hu.1

/-! ### Writers of single registers -/

theorem evtPending_of_outside {i : Instr} {s u : State} (hi : i ≠ .rxs) (h : u.outside i = s.outside i) :
    u.evtPending = s.evtPending := by
  cases i with
  | rxs => exact absurd rfl hi
  | _ =>
    have heq := congrArg State.evtPending h
    exact heq

/-- A turn of the sequencer clears the latch only with `RXS` in progress. -/
theorem keeps_evtPending {s : State} {p : Pos} (hp : p.instr ≠ .rxs) :
    (lineAt s p).Keeps (fun u => u.evtPending = s.evtPending) s :=
  (within_lineAt s p).mono fun _ hu => evtPending_of_outside hp hu.1

/-- Of the lines of `RXS` but `A0` and `W2`, only one that ends `RXS` clears the latch (R228). -/
theorem lineRxs_keeps_latch {s : State} {l : RxsLine} (hpending : s.evtPending = true) (ha0 : l ≠ .a0) (hw2 : l ≠ .w2) :
    (lineRxs s l).Keeps (fun u => u.evtPending = true ∨ u.seq = .idle) s := by
  cases l with
  | a0 => exact absurd rfl ha0
  | w2 => exact absurd rfl hw2
  | a1 | l4 => simp [hpending]
  | a1r l | a3 l => cases l <;> simp [lineRxs, hpending]
  | a2 | a4 | a5 | l3 | l6 => simp [lineRxs, hpending]
  | l7 => simp [lineRxs, Line.Keeps, hpending]

/-- Settles O40: outside `RXS` the latch is not written; within, line by line. -/
theorem latchClearedOnlyThere : Obligations.LatchClearedOnlyThere := by
  intro s t hpending hcleared
  cases hs : s.seq with
  | idle => rw [takeLine_idle hs, hpending] at hcleared; cases hcleared
  | running p =>
    rw [takeLine_running hs] at hcleared ⊢
    by_cases hrxs : p.instr = .rxs
    · cases p with
      | rxs l =>
        by_cases ha0 : l = .a0
        · exact .inr (.inl (by rw [ha0]))
        by_cases hw2 : l = .w2
        · subst hw2
          have hnext := complete_keeps (P := fun u => u.evtPending = true ∨ u.seq = .running (.rxs .l3)) (.inl hpending)
            (l := lineRxs s .w2) (fun _ => .inr rfl) t
          exact .inl ⟨rfl, hnext.resolve_left (by simpa [lineAt] using hcleared)⟩
        · have hend := complete_keeps (.inl hpending) (lineRxs_keeps_latch hpending ha0 hw2) t
          exact .inr (.inr ⟨⟨l, rfl⟩, hend.resolve_left (by simpa [lineAt] using hcleared)⟩)
      | _ => cases hrxs
    · have hkept := complete_keeps (P := fun u => u.evtPending = s.evtPending) rfl (keeps_evtPending hrxs) t
      rw [hkept, hpending] at hcleared
      cases hcleared

/-- Lines that write `tx_power`: those of `PWR` and of `S5` (R131). -/
def Pos.writesPower (p : Pos) : Prop := (∃ q l, p = .pwr q l) ∨ ∃ cfg l, p = .setup cfg (.s5 l)

theorem keeps_txPower {s : State} {p : Pos} (hp : ¬ p.writesPower) :
    (lineAt s p).Keeps (fun u => u.txPower = s.txPower) s := by
  cases p with
  | pwr q l => exact absurd (.inl ⟨q, l, rfl⟩) hp
  | setup cfg l =>
    cases l with
    | s5 l => exact absurd (.inr ⟨cfg, l, rfl⟩) hp
    | s1 l => cases l <;> simp [lineAt, lineSetup]
    | s2 l =>
      cases l with
      | y1 h => cases h <;> simp [lineAt, lineSetup]
      | y2 => simp [lineAt, lineSetup]
    | s3 l =>
      cases l with
      | y1 h => cases h <;> simp [lineAt]
      | y2 => simp [lineAt, lineSetup]
    | s4 => simp [lineAt]
  | _ =>
    refine (within_lineAt s _).mono fun u hu => ?_
    have heq := congrArg State.txPower hu.1
    exact heq

/-- Settles O15: a step writes `tx_power` only at those lines and at block reset. -/
theorem txPowerWriters : Obligations.TxPowerWriters := by
  intro s t h hne
  by_contra hnone
  obtain ⟨hpower, hreset⟩ := not_or.mp hnone
  refine hne (step_keeps (P := fun u => u.txPower = s.txPower) h (fun _ => rfl) (fun _ _ => rfl)
    (fun _ _ _ i p _ _ _ _ _ => latched_txPower i s) (fun ts => by rw [irqRise_eq]; rfl)
    (fun rest henv => absurd ⟨rest, henv⟩ hreset) fun p ts hs => ?_)
  exact keeps_txPower (s := s.withEnv ts) fun hp => hpower ⟨p, hs, hp⟩

/-- Lines that write `setup_done`: those of the reset pulse and of `S5` (R150, R158). -/
theorem keeps_setupDone {s : State} {p : Pos} (hrstp : ∀ l, p ≠ .rstp l) (hs1 : ∀ cfg l, p ≠ .setup cfg (.s1 l))
    (hs5 : ∀ cfg l, p ≠ .setup cfg (.s5 l)) : (lineAt s p).Keeps (fun u => u.setupDone = s.setupDone) s := by
  cases p with
  | rstp l => exact absurd rfl (hrstp l)
  | setup cfg l =>
    cases l with
    | s1 l => exact absurd rfl (hs1 cfg l)
    | s5 l => exact absurd rfl (hs5 cfg l)
    | s2 l =>
      cases l with
      | y1 h => cases h <;> simp [lineAt, lineSetup]
      | y2 => simp [lineAt, lineSetup]
    | s3 l =>
      cases l with
      | y1 h => cases h <;> simp [lineAt]
      | y2 => simp [lineAt, lineSetup]
    | s4 => simp [lineAt]
  | _ =>
    refine (within_lineAt s _).mono fun u hu => ?_
    have heq := congrArg State.setupDone hu.1
    exact heq

/-- The reset pulse writes `setup_done` only to 0 (R150). -/
theorem pulse_keeps_setupDone {s : State} {p : Pos} (hp : (∃ l, p = .rstp l) ∨ ∃ cfg l, p = .setup cfg (.s1 l)) :
    (lineAt s p).Keeps (fun u => u.setupDone = s.setupDone ∨ u.setupDone = false) s := by
  obtain ⟨l, rfl⟩ | ⟨cfg, l, rfl⟩ := hp
  · cases l <;> simp [lineAt, lineRstp]
  · cases l <;> simp [lineAt, lineSetup]

/-- `S5` writes `setup_done` only to 1, in the step that ends `SETUP` (R158). -/
theorem s5_keeps_setupDone (s : State) (cfg : List (Byte × Byte)) (l : RecipeLine) :
    (lineSetup s cfg (.s5 l)).Keeps (fun u => u.setupDone = s.setupDone ∨ (u.setupDone = true ∧ u.seq = .idle)) s := by
  cases l <;> simp [lineSetup, RecipeLine.advance, RecipeLine.next, storeFirst, RecipeLine.isFirst]

/-- Settles O23: by the position, where the next turn is the sequencer's. -/
theorem setupDoneWriters : Obligations.SetupDoneWriters := by
  intro s t h
  refine step_keeps h (P := fun u => u.setupDone ≠ s.setupDone →
      (u.setupDone = false ∧ ((∃ l, s.seq = .running (.rstp l)) ∨ ∃ cfg l, s.seq = .running (.setup cfg (.s1 l)))) ∨
      (u.setupDone = true ∧ u.seq = .idle ∧ ∃ cfg l, s.seq = .running (.setup cfg (.s5 l))) ∨
      (u.setupDone = false ∧ ∃ rest, s.env = .blockReset :: rest))
    (fun _ hne => absurd rfl hne) (fun _ _ hne => absurd rfl hne)
    (fun _ _ _ i p _ _ _ _ _ hne => absurd (latched_setupDone i s) hne)
    (fun ts hne => absurd (by rw [irqRise_eq]; rfl) hne) (fun rest henv _ => .inr (.inr ⟨rfl, rest, henv⟩))
    fun p ts hs => ?_
  by_cases hpulse : (∃ l, p = .rstp l) ∨ ∃ cfg l, p = .setup cfg (.s1 l)
  · refine (pulse_keeps_setupDone (s := s.withEnv ts) hpulse).mono fun u hu hne => .inl ⟨hu.resolve_left hne, ?_⟩
    exact hpulse.imp (fun ⟨l, hl⟩ => ⟨l, hs.trans (by rw [hl])⟩) fun ⟨cfg, l, hl⟩ => ⟨cfg, l, hs.trans (by rw [hl])⟩
  by_cases hpower : ∃ cfg l, p = .setup cfg (.s5 l)
  · obtain ⟨cfg, l, rfl⟩ := hpower
    refine (s5_keeps_setupDone (s.withEnv ts) cfg l).mono fun u hu hne => .inr (.inl ?_)
    obtain ⟨hdone, hidle⟩ := hu.resolve_left hne
    exact ⟨hdone, hidle, cfg, l, hs⟩
  · obtain ⟨hrstp, hs1⟩ := not_or.mp hpulse
    refine (keeps_setupDone (s := s.withEnv ts) (fun l hl => hrstp ⟨l, hl⟩) (fun cfg l hl => hs1 ⟨cfg, l, hl⟩)
      fun cfg l hl => hpower ⟨cfg, l, hl⟩).mono fun u hu hne => absurd hu hne

end Sys2Proof.Machine
end

section
/-! PROOFS: the invariant of the registers holds at reset and every step keeps it. -/

namespace Sys2Proof.Machine

/-! ### The invariant at the end of a line -/

/-- The clauses of the invariant that do not speak of the position. -/
def State.Regs (s : State) : Prop :=
  (∀ q, s.txPower = some q → -2 ≤ q ∧ q ≤ 20) ∧ (s.setupDone = true → s.txPower.isSome = true) ∧ s.errSlot = none ∧
    (s.evtPending = true → s.arbEnabled = true)

theorem State.Inv.regs {s : State} (h : s.Inv) : s.Regs := ⟨h.powerRange, h.powerSet, h.slotEmpty, h.latch⟩

/-- Outside `RXS` the arbiter does not run (R27). -/
theorem State.Inv.arbEnabled_eq_false {s : State} (h : s.Inv) (hs : ∀ l, s.seq ≠ .running (.rxs l)) :
    s.arbEnabled = false := by
  rw [Bool.eq_false_iff]
  exact fun harb => (h.arbiter harb).elim hs

theorem posOk_goto {s : State} {q : Pos} (p : Pos) : (s.goto q).posOk p ↔ s.posOk p := by
  cases p with
  | setup cfg l => cases l <;> rfl
  | _ => rfl

@[simp] theorem inv_goto_iff {s : State} {q : Pos} :
    (s.goto q).Inv ↔ s.Regs ∧ (s.arbEnabled = true → ∃ l, q = .rxs l) ∧ s.posOk q := by
  constructor
  · intro h
    refine ⟨h.regs, fun harb => ?_, (posOk_goto q).mp (h.position q rfl)⟩
    obtain ⟨l, hl⟩ := h.arbiter harb
    exact ⟨l, Seq.running.inj hl⟩
  · rintro ⟨⟨hrange, hset, hslot, hlatch⟩, harb, hpos⟩
    refine ⟨hrange, hset, hslot, hlatch, fun h => ?_, fun p hp => ?_⟩
    · obtain ⟨l, rfl⟩ := harb h
      exact ⟨l, rfl⟩
    · obtain rfl : q = p := Seq.running.inj hp
      exact (posOk_goto q).mpr hpos

/-- At `Idle` the invariant is that of the registers, with the arbiter stopped. -/
theorem inv_idle_iff {s : State} (hs : s.seq = .idle) : s.Inv ↔ s.Regs ∧ s.arbEnabled = false := by
  constructor
  · intro h
    exact ⟨h.regs, h.arbEnabled_eq_false fun l hl => by rw [hs] at hl; cases hl⟩
  · rintro ⟨⟨hrange, hset, hslot, hlatch⟩, harb⟩
    refine ⟨hrange, hset, hslot, hlatch, fun h => ?_, fun p hp => ?_⟩
    · rw [harb] at h
      cases h
    · rw [hs] at hp
      cases hp

@[simp] theorem inv_finish_iff {s : State} {value : List Byte} :
    (s.finish value).Inv ↔ s.Regs ∧ s.arbEnabled = false := inv_idle_iff rfl

@[simp] theorem inv_raise_iff {s : State} {e : Err} : (s.raise e).Inv ↔ s.Regs ∧ s.arbEnabled = false := inv_idle_iff rfl

@[simp] theorem inv_raiseSetup_iff {s : State} {e : Err} :
    (s.raiseSetup e).Inv ↔ s.Regs ∧ s.arbEnabled = false := inv_idle_iff rfl

/-- The end of `RXS` stops the arbiter, clears the latch and empties the slot (R228). -/
theorem inv_raiseRxs {s : State} {e : Err} (h : s.Regs) : (s.raiseRxs e).Inv :=
  (inv_idle_iff rfl).mpr ⟨⟨h.1, h.2.1, rfl, fun hpending => by cases hpending⟩, rfl⟩

/-! The updates that write none of these registers. -/

@[simp] theorem regs_transact {s : State} {tx : List Byte} {ans : Answer} : (s.transact tx ans).Regs ↔ s.Regs := Iff.rfl
@[simp] theorem regs_emit {s : State} {e : Event} : (s.emit e).Regs ↔ s.Regs := Iff.rfl
@[simp] theorem regs_latchEdit {s : State} {v : Byte} : (s.latchEdit v).Regs ↔ s.Regs := Iff.rfl
@[simp] theorem regs_startSync {s : State} : s.startSync.Regs ↔ s.Regs := Iff.rfl
@[simp] theorem regs_countAttempt {s : State} : s.countAttempt.Regs ↔ s.Regs := Iff.rfl
@[simp] theorem regs_startPoll {s : State} : s.startPoll.Regs ↔ s.Regs := Iff.rfl
@[simp] theorem regs_countPoll {s : State} : s.countPoll.Regs ↔ s.Regs := Iff.rfl
@[simp] theorem regs_clearShadow {s : State} : s.clearShadow.Regs ↔ s.Regs := Iff.rfl
@[simp] theorem regs_setShadow {s : State} {m : OpMode} : (s.setShadow m).Regs ↔ s.Regs := Iff.rfl
@[simp] theorem regs_firstPair {s : State} : s.firstPair.Regs ↔ s.Regs := Iff.rfl
@[simp] theorem regs_nextPair {s : State} : s.nextPair.Regs ↔ s.Regs := Iff.rfl
@[simp] theorem regs_dropConfig {s : State} : s.dropConfig.Regs ↔ s.Regs := Iff.rfl
@[simp] theorem regs_latchFlags {s : State} {v : Byte} : (s.latchFlags v).Regs ↔ s.Regs := Iff.rfl
@[simp] theorem regs_latchRssi {s : State} {v : Byte} : (s.latchRssi v).Regs ↔ s.Regs := Iff.rfl
@[simp] theorem regs_latchHeader {s : State} {h : List Byte} : (s.latchHeader h).Regs ↔ s.Regs := Iff.rfl
@[simp] theorem regs_latchPlen {s : State} : s.latchPlen.Regs ↔ s.Regs := Iff.rfl
@[simp] theorem regs_latchPayload {s : State} {d : List Byte} : (s.latchPayload d).Regs ↔ s.Regs := Iff.rfl
@[simp] theorem regs_latchPacket {s : State} {p : Packet} : (s.latchPacket p).Regs ↔ s.Regs := Iff.rfl
@[simp] theorem regs_withEnv {s : State} {ts : List Turn} : (s.withEnv ts).Regs ↔ s.Regs := Iff.rfl

/-! Those that write one of them to a value that fits. -/

theorem regs_dropSetup {s : State} (h : s.Regs) : s.dropSetup.Regs :=
  ⟨h.1, fun hdone => absurd hdone Bool.false_ne_true, h.2.2⟩

theorem regs_setDone {s : State} (h : s.Regs) (hset : s.txPower.isSome = true) : s.setDone.Regs :=
  ⟨h.1, fun _ => hset, h.2.2⟩

theorem regs_storeFirst {s : State} (h : s.Regs) (d : Int) (l : RecipeLine) : (storeFirst d l s).Regs := by
  unfold storeFirst
  split
  · refine ⟨fun q hq => ?_, fun _ => rfl, h.2.2⟩
    obtain rfl : clampPower d = q := Option.some.inj hq
    exact clampPower_range d
  · exact h

theorem regs_startRxs {s : State} (h : s.Regs) : s.startRxs.Regs := ⟨h.1, h.2.1, rfl, fun _ => rfl⟩

theorem regs_takeEvent {s : State} (h : s.Regs) : s.takeEvent.Regs :=
  ⟨h.1, h.2.1, h.2.2.1, fun hpending => by cases hpending⟩

@[simp] theorem inv_finishSetup_iff {s : State} :
    s.finishSetup.Inv ↔ s.setDone.Regs ∧ s.arbEnabled = false := inv_idle_iff rfl

@[simp] theorem storeFirst_params (d : Int) (l : RecipeLine) (s : State) : (storeFirst d l s).params = s.params := by
  unfold storeFirst
  split <;> rfl

@[simp] theorem storeFirst_setupDone (d : Int) (l : RecipeLine) (s : State) :
    (storeFirst d l s).setupDone = s.setupDone := by
  unfold storeFirst
  split <;> rfl

/-- From the first line of its recipe on the power is stored (R131). -/
theorem storeFirst_txPower {d : Int} {l : RecipeLine} {s : State}
    (h : l.isFirst = false → s.txPower = some (clampPower d)) : (storeFirst d l s).txPower = some (clampPower d) := by
  unfold storeFirst
  split
  · rfl
  · exact h (by simpa using ‹¬ l.isFirst = true›)

@[simp] theorem isFirst_recipeFirst (p : Params) (d : Int) : (recipeFirst p d).isFirst = true := by
  unfold recipeFirst
  split <;> rfl

@[simp] theorem storeFirst_arbEnabled (d : Int) (l : RecipeLine) (s : State) : (storeFirst d l s).arbEnabled = s.arbEnabled := by
  unfold storeFirst
  split <;> rfl

/-! ### Loop counters -/

/-- Before the first `Y1` no attempt is counted (R13). -/
@[simp] theorem attemptInBound_entered (s : State) : s.attemptInBound (.y1 .entered) := fun h => absurd rfl h

@[simp] theorem attemptInBound_transact {s : State} {tx : List Byte} {ans : Answer} {l : SyncLine} :
    (s.transact tx ans).attemptInBound l ↔ s.attemptInBound l := Iff.rfl

@[simp] theorem attemptInBound_transact_countAttempt {s : State} {tx : List Byte} {ans : Answer} {l : SyncLine} :
    (s.transact tx ans).countAttempt.attemptInBound l ↔ s.countAttempt.attemptInBound l := Iff.rfl

@[simp] theorem pollsInBound_transact_countPoll {s : State} {tx : List Byte} {ans : Answer} :
    (s.transact tx ans).countPoll.pollsInBound ↔ s.countPoll.pollsInBound := Iff.rfl

@[simp] theorem pollsInBound_transact_startPoll_countPoll {s : State} {tx : List Byte} {ans : Answer} :
    (s.transact tx ans).startPoll.countPoll.pollsInBound ↔ s.startPoll.countPoll.pollsInBound := Iff.rfl

/-- A sync phase begins with attempt 1 (R152). -/
theorem attemptInBound_startSync (s : State) (l : SyncLine) : s.startSync.attemptInBound l := fun _ => by simp

/-- Below fifteen an attempt may be counted (R154). -/
theorem attemptInBound_countAttempt {s : State} (h : s.attemptInBound .y2) (hnot : s.attempt ≠ 15) (l : SyncLine) :
    s.countAttempt.attemptInBound l := fun _ => by
  have hbound := h (by simp)
  simp only [State.countAttempt_attempt]
  omega

/-- An attempt's number is the same at its write. -/
theorem attemptInBound_y2 {s : State} (h : s.attemptInBound (.y1 .repeated)) : s.attemptInBound .y2 :=
  fun _ => h (by simp)

/-- A poll begins with no read counted, which is below any bound (R175, R176). -/
theorem pollsInBound_startPoll (s : State) : s.startPoll.pollsInBound := fun n hn =>
  Nat.pos_of_ne_zero fun h0 => s.params.pollLimitWf (by rw [← h0]; exact hn)

/-- While the bound is not met a read may be counted (R175). -/
theorem pollsInBound_countPoll {s : State} (h : s.pollsInBound) (hnot : s.params.pollLimit ≠ some (s.polls + 1)) :
    s.countPoll.pollsInBound := fun n hn => by
  have hlt := h n hn
  have hne : n ≠ s.polls + 1 := fun heq => hnot (heq ▸ hn)
  simp only [State.countPoll_polls]
  omega

theorem pollsInBound_startPoll_countPoll {s : State} (hnot : s.params.pollLimit ≠ some 1) :
    s.startPoll.countPoll.pollsInBound := pollsInBound_countPoll (pollsInBound_startPoll s) hnot

/-! ### Each line keeps the invariant -/

section
variable {s : State} (hregs : s.Regs) (harb : s.arbEnabled = false)
include hregs harb

theorem inv_lineEd {a clr set : Byte} (l : EditLine) : (lineEd s a clr set l).Keeps State.Inv s := by
  cases l <;> simp [lineEd, State.posOk, hregs, harb]

theorem inv_linePwr {d : Byte} (l : RecipeLine) : (linePwr s d l).Keeps State.Inv s := by
  cases l <;>
    simp [linePwr, RecipeLine.advance, RecipeLine.next, regs_storeFirst, State.posOk, hregs, harb]

theorem inv_lineMode {m : OpMode} (l : EditLine) : (lineMode s m l).Keeps State.Inv s := by
  cases l <;> simp [lineMode, State.posOk, hregs, harb]

/-- From the first line on the pulse has cleared `setup_done` (R150). -/
theorem inv_lineRstp {l : PulseLine} (hpos : s.posOk (.rstp l)) : (lineRstp l).Keeps State.Inv s := by
  simp only [State.posOk] at hpos
  cases l with
  | p1 => simp [lineRstp, State.posOk, regs_dropSetup, hregs, harb]
  | p2 | p3 | p4 => simp [lineRstp, State.posOk, hregs, harb, hpos]

theorem inv_lineSync {sentinel : Byte} {l : SyncLine} (hpos : s.posOk (.sync sentinel l)) :
    (lineSync s sentinel l).Keeps State.Inv s := by
  simp only [State.posOk] at hpos
  cases l with
  | y1 h =>
    cases h with
    | entered => simp [lineSync, State.posOk, attemptInBound_startSync, hregs, harb]
    | repeated => simp [lineSync, State.posOk, attemptInBound_y2 hpos, hregs, harb]
  | y2 => simp +contextual [lineSync, State.posOk, attemptInBound_countAttempt hpos, hregs, harb]

theorem inv_lineWaitf {f : Flag} {h : LoopHead} (hpos : s.posOk (.waitf f h)) : (lineWaitf s f h).Keeps State.Inv s := by
  cases h with
  | entered =>
    simp +contextual [lineWaitf, State.posOk, pollsInBound_startPoll_countPoll, hregs, harb]
  | repeated => simp +contextual [lineWaitf, State.posOk, pollsInBound_countPoll, hpos rfl, hregs, harb]

/-- The lines of `SETUP` after the pulse find `setup_done` 0 (R24, R158). -/
theorem inv_lineSetup {cfg : List (Byte × Byte)} {l : SetupLine} (hpos : s.posOk (.setup cfg l)) :
    (lineSetup s cfg l).Keeps State.Inv s := by
  simp only [State.posOk, State.setupOk] at hpos
  cases l with
  | s1 l =>
    obtain ⟨hcfg, hdone⟩ := hpos
    cases l with
    | p1 => simp [lineSetup, State.posOk, State.setupOk, regs_dropSetup, hregs, harb, hcfg]
    | p2 | p3 | p4 => simp [lineSetup, State.posOk, State.setupOk, hregs, harb, hcfg, hdone]
  | s2 l =>
    obtain ⟨hdone, hcfg, hattempt⟩ := hpos
    cases l with
    | y1 h =>
      cases h with
      | entered => simp [lineSetup, State.posOk, State.setupOk, attemptInBound_startSync, hregs, harb, hcfg, hdone]
      | repeated => simp [lineSetup, State.posOk, State.setupOk, attemptInBound_y2 hattempt, hregs, harb, hcfg, hdone]
    | y2 =>
      simp +contextual [lineSetup, State.posOk, State.setupOk, attemptInBound_countAttempt hattempt, hregs, harb, hcfg,
        hdone]
  | s3 l =>
    obtain ⟨hdone, hcfg, hattempt⟩ := hpos
    cases l with
    | y1 h =>
      cases h with
      | entered =>
        simp [State.gotoPower, State.posOk, State.setupOk, attemptInBound_startSync, List.length_pos_iff, hregs, harb, hcfg,
          hdone]
      | repeated =>
        simp [State.gotoPower, State.posOk, State.setupOk, attemptInBound_y2 hattempt, List.length_pos_iff, hregs, harb,
          hcfg, hdone]
    | y2 =>
      simp +contextual [lineSetup, State.posOk, State.setupOk, attemptInBound_countAttempt hattempt, hregs, harb, hcfg,
        hdone]
  | s4 =>
    obtain ⟨hdone, hcfg, hpair⟩ := hpos
    simp [State.gotoPower, State.posOk, State.setupOk, hregs, harb, hcfg, hdone]
  | s5 l =>
    obtain ⟨hdone, hpower⟩ := hpos
    have hstored : ∀ tx ans, (storeFirst s.params.initialPower l (s.transact tx ans)).txPower =
        some (clampPower s.params.initialPower) := fun tx ans => storeFirst_txPower hpower
    cases l <;>
      simp [lineSetup, State.posOk, State.setupOk, RecipeLine.advance, RecipeLine.next, regs_storeFirst, regs_setDone,
        hstored, hregs, harb, hdone]

theorem inv_lineSend {dst : Byte} {payload : List Byte} {l : SendLine} (hpos : s.posOk (.send dst payload l)) :
    (lineSend s dst payload l).Keeps State.Inv s := by
  obtain ⟨hdone, hlen, hdst, hpayload, hpolls⟩ := hpos
  cases l with
  | t1 l | t6 l | t7 l =>
    cases l <;> simp [lineSend, State.posOk, State.sendOk, hregs, harb, hdone, hlen, hdst, hpayload]
  | t1w h | t6w h | t7w h =>
    cases h with
    | entered =>
      simp +contextual [lineSend, State.posOk, State.sendOk, pollsInBound_startPoll_countPoll, hregs, harb, hdone,
        hlen, hdst, hpayload]
    | repeated =>
      simp +contextual [lineSend, State.posOk, State.sendOk, pollsInBound_countPoll, hpolls, hregs, harb, hdone, hlen,
        hdst, hpayload]
  | t3 l | t7p l =>
    cases l <;>
      simp [lineSend, State.posOk, State.sendOk, RecipeLine.advance, RecipeLine.next, hregs, harb, hdone, hlen, hdst, hpayload]
  | t2 | t4 | t5 => simp [lineSend, State.posOk, State.sendOk, hregs, harb, hdone, hlen, hdst, hpayload]

end

theorem inv_lineRxs {s : State} {l : RxsLine} (hregs : s.Regs) (hpos : s.posOk (.rxs l)) :
    (lineRxs s l).Keeps State.Inv s := by
  obtain ⟨hdone, harb, hrssi, hheader, hbuf⟩ := hpos
  cases l with
  | a0 => simp [lineRxs, Line.Keeps, State.posOk, State.rxsOk, regs_startRxs, hregs, hdone]
  | w2 =>
    have harb' : s.arbEnabled = true := harb.mpr (by simp)
    simp [lineRxs, Line.Keeps, State.posOk, State.rxsOk, regs_takeEvent, hregs, hdone, harb']
  | l7 =>
    have harb' : s.arbEnabled = true := harb.mpr (by simp)
    simp [lineRxs, Line.Keeps, State.posOk, State.rxsOk, hregs, hdone, harb']
  | l4 =>
    have harb' : s.arbEnabled = true := harb.mpr (by simp)
    have hrssi' := hrssi (by simp)
    simp +contextual [State.posOk, State.rxsOk, State.headerOk, inv_raiseRxs, payloadLength, Config.headerLen, hregs, hdone,
      harb', hrssi']
  | l6 =>
    have harb' : s.arbEnabled = true := harb.mpr (by simp)
    have hrssi' := hrssi (by simp)
    obtain ⟨hlegal, hplen⟩ := hheader (by simp)
    have hdrained : ∀ d : List Byte, d.length = s.plen.toNat →
        s.plen = (s.hTotal.toNat : Int) - 3 ∧ (d.length : Int) = s.plen := by
      intro d hd
      omega
    simpa [lineRxs, State.posOk, State.rxsOk, State.headerOk, inv_raiseRxs, hregs, hdone, harb', hrssi', hlegal] using hdrained
  | a1r l | a3 l =>
    have harb' : s.arbEnabled = true := harb.mpr (by simp)
    cases l <;> simp [lineRxs, State.posOk, State.rxsOk, inv_raiseRxs, hregs, hdone, harb']
  | a1 =>
    have harb' : s.arbEnabled = true := harb.mpr (by simp)
    simp [State.posOk, State.rxsOk, inv_raiseRxs, hregs, hdone, harb']
  | a2 | a4 | a5 | l3 =>
    have harb' : s.arbEnabled = true := harb.mpr (by simp)
    simp [lineRxs, State.posOk, State.rxsOk, inv_raiseRxs, hregs, hdone, harb']

/-- Every line keeps the invariant from a state that meets it at the line's position. -/
theorem inv_lineAt {s : State} {p : Pos} (h : s.Inv) (hs : s.seq = .running p) : (lineAt s p).Keeps State.Inv s := by
  have hregs := h.regs
  have hpos := h.position p hs
  by_cases hrxs : ∃ l, p = .rxs l
  · obtain ⟨l, rfl⟩ := hrxs
    exact inv_lineRxs hregs hpos
  have harb : s.arbEnabled = false := h.arbEnabled_eq_false fun l hl => hrxs ⟨l, by rw [hs] at hl; cases hl; rfl⟩
  cases p with
  | rxs l => exact absurd ⟨l, rfl⟩ hrxs
  | rd | wr | brd | bwr => simp [lineAt, lineRd, lineWr, lineBrd, lineBwr, hregs, harb]
  | ed a clr set l => exact inv_lineEd hregs harb l
  | pwr d l => exact inv_linePwr hregs harb l
  | rstp l => exact inv_lineRstp hregs harb hpos
  | sync sentinel l => exact inv_lineSync hregs harb hpos
  | setup cfg l => exact inv_lineSetup hregs harb hpos
  | mode m l => exact inv_lineMode hregs harb l
  | waitf f head => exact inv_lineWaitf hregs harb hpos
  | send dst payload l => exact inv_lineSend hregs harb hpos

/-! ### The other turns -/

theorem State.Inv.withEnv {s : State} (h : s.Inv) (ts : List Turn) : (s.withEnv ts).Inv := by
  refine ⟨h.powerRange, h.powerSet, h.slotEmpty, h.latch, h.arbiter, fun p hp => ?_⟩
  have hpos := h.position p hp
  cases p with
  | setup cfg l => cases l <;> exact hpos
  | _ => exact hpos

theorem State.Inv.refuse {s : State} (h : s.Inv) (e : Err) : (s.refuse e).Inv := by
  refine ⟨h.powerRange, h.powerSet, h.slotEmpty, h.latch, h.arbiter, fun p hp => ?_⟩
  have hpos := h.position p hp
  cases p with
  | setup cfg l => cases l <;> exact hpos
  | _ => exact hpos

theorem State.Inv.irqRise {s : State} (h : s.Inv) : s.irqRise.Inv := by
  rw [irqRise_eq]
  refine ⟨h.powerRange, h.powerSet, h.slotEmpty, fun hpending => ?_, h.arbiter, fun p hp => ?_⟩
  · simp only [Bool.or_eq_true] at hpending
    exact hpending.elim id h.latch
  · have hpos := h.position p hp
    cases p with
    | setup cfg l => cases l <;> exact hpos
    | _ => exact hpos

theorem inv_blockReset (s : State) : s.blockReset.Inv := by
  refine (inv_idle_iff rfl).mpr ⟨⟨fun q hq => ?_, fun hdone => ?_, rfl, fun hpending => ?_⟩, rfl⟩
  · cases hq
  · cases hdone
  · cases hpending

/-- An accepted command finds what its first line relies on (R258). -/
theorem posOk_firstLine {s : State} {i : Instr} {p : Pos} (hs : s.seq = .idle)
    (href : s.refusal (needsSetup i) (exceedsPayload i) = none) (harb : s.arbEnabled = false)
    (hfirst : firstLine s.params i = some p) : (s.latched i).posOk p := by
  have hdone : needsSetup i = true → s.setupDone = true := fun hneeds => by
    cases hd : s.setupDone with
    | true => rfl
    | false => rw [refusal_notReady hs hneeds hd] at href; cases href
  cases i with
  | pwr d =>
    rw [firstLine_pwr] at hfirst
    cases hfirst
    trivial
  | send dst payload =>
    cases hfirst
    have hlen : payload.length ≤ 252 := by
      by_contra hlong
      have hexceeds : exceedsPayload (.send dst payload) = true := decide_eq_true (Nat.not_le.mp hlong)
      rw [refusal_payloadTooLong hs (hdone rfl) hexceeds] at href
      cases href
    exact ⟨hdone rfl, hlen, rfl, rfl, by simp⟩
  | rxs =>
    cases hfirst
    simpa [State.latched, State.posOk, State.rxsOk, harb] using hdone rfl
  | busR1 | busW1 | busRN | busWN | fifoFrame => cases hfirst
  | _ =>
    cases hfirst
    simp [State.latched, State.posOk, State.setupOk]

/-- Settles O53: the registers at reset. -/
theorem invAtReset : Obligations.InvAtReset := inv_blockReset { State.reset with trace := [] }

/-- Settles O50: the registers at reset. -/
theorem resetState : Obligations.ResetState := ⟨rfl, rfl, rfl, rfl, rfl, rfl, rfl⟩

/-- Settles O54: every line keeps the invariant, and so does every other turn. -/
theorem invKept : Obligations.InvKept := by
  intro s t h hstep
  refine step_keeps hstep h.withEnv (fun ts e => (h.withEnv ts).refuse e) ?accept (fun ts => (h.withEnv ts).irqRise)
    (fun rest _ => inv_blockReset _) fun p ts hs => ?line
  case accept =>
    intro op operands rest i p _ hs _ href hfirst
    have harb : s.arbEnabled = false := h.arbEnabled_eq_false fun l hl => by rw [hs] at hl; cases hl
    have hregs : (s.latched i).Regs := by simpa [State.Regs] using h.regs
    refine State.Inv.withEnv (inv_goto_iff.mpr ⟨hregs, fun hrun => ?_, posOk_firstLine hs href harb hfirst⟩) rest
    rw [latched_arbEnabled, harb] at hrun
    cases hrun
  case line =>
    rw [← lineAt_withEnv s ts]
    exact inv_lineAt (h.withEnv ts) hs

end Sys2Proof.Machine
end

section
/-! PROOFS: a believed mode is the mode last written, and every step keeps it so under the host's duty (R43, R309). -/

namespace Sys2Proof.Machine

/-! ### Which events write the mode register -/

/-- I1 for a shadow, a record and a map (R43). -/
def Justified (r : RegMap) (shadow : Option OpMode) (trace : List Event) : Prop :=
  ∀ m, shadow = some m → ∃ v, lastOpmodeByte r trace = some v ∧ v &&& r.modeMask = modeCode r m

theorem shadowTrue_iff (s : State) : s.shadowTrue ↔ Justified s.params.regMap s.modeShadow s.trace := Iff.rfl

@[simp] theorem justified_none (r : RegMap) (trace : List Event) : Justified r none trace := fun _ h => by cases h

theorem lastOpmodeByte_append_none {r : RegMap} {e : Event} (trace : List Event) (h : e.opmodeByte r = none) :
    lastOpmodeByte r (trace ++ [e]) = lastOpmodeByte r trace := by
  simp [lastOpmodeByte, List.filterMap_append, h]

theorem lastOpmodeByte_append_some {r : RegMap} {e : Event} {v : Byte} (trace : List Event)
    (h : e.opmodeByte r = some v) : lastOpmodeByte r (trace ++ [e]) = some v := by
  simp [lastOpmodeByte, List.filterMap_append, h]

/-- An event that does not write the mode register leaves the shadow justified. -/
@[simp] theorem justified_append_iff {r : RegMap} {shadow : Option OpMode} {trace : List Event} {e : Event}
    (h : e.opmodeByte r = none) : Justified r shadow (trace ++ [e]) ↔ Justified r shadow trace := by
  unfold Justified
  rw [lastOpmodeByte_append_none trace h]

@[simp] theorem opmodeByte_setReset (r : RegMap) (level ok : Bool) : (Event.setReset level ok).opmodeByte r = none := by simp [Event.opmodeByte]
@[simp] theorem opmodeByte_hold (r : RegMap) (micros : Nat) : (Event.hold micros).opmodeByte r = none := by simp [Event.opmodeByte]
@[simp] theorem opmodeByte_response (r : RegMap) (bytes : List Byte) : (Event.response bytes).opmodeByte r = none := by
  simp [Event.opmodeByte]
@[simp] theorem opmodeByte_packet (r : RegMap) (p : Packet) : (Event.packet p).opmodeByte r = none := by simp [Event.opmodeByte]

theorem addrByte_read_ne_write (p : Params) (a b : Byte) : addrByte p.regMap a .read ≠ addrByte p.regMap b .write := by
  intro h
  have hdir := congrArg (· &&& p.regMap.dirMask) h
  simp only [addrByte_and_dirMask] at hdir
  exact dirRead_ne_dirWrite p hdir

theorem addrByte_write_ne {p : Params} {a b : Byte} (h : sameRegister p.regMap a b = false) :
    addrByte p.regMap a .write ≠ addrByte p.regMap b .write := by
  intro heq
  have haddr := congrArg (· &&& ~~~p.regMap.dirMask) heq
  simp only [addrByte_and_not_dirMask] at haddr
  simp [sameRegister, haddr] at h

/-- A read does not write the mode register (R82, R84). -/
@[simp] theorem opmodeByte_frameRN (p : Params) (a : Byte) (n : Nat) (rx : Option (List Byte)) :
    (Event.transfer (frameRN p.regMap a n) rx).opmodeByte p.regMap = none :=
  if_neg (addrByte_read_ne_write p a _)

@[simp] theorem opmodeByte_frameR1 (p : Params) (a : Byte) (rx : Option (List Byte)) :
    (Event.transfer (frameR1 p.regMap a) rx).opmodeByte p.regMap = none := opmodeByte_frameRN p a 1 rx

/-- A write elsewhere does not write the mode register (R83, R85). -/
@[simp] theorem opmodeByte_frameWN {p : Params} {a : Byte} (h : sameRegister p.regMap a p.regMap.aOpmode = false)
    (bytes : List Byte) (rx : Option (List Byte)) :
    (Event.transfer (frameWN p.regMap a bytes) rx).opmodeByte p.regMap = none :=
  if_neg (addrByte_write_ne h)

@[simp] theorem opmodeByte_frameW1 {p : Params} {a : Byte} (h : sameRegister p.regMap a p.regMap.aOpmode = false)
    (v : Byte) (rx : Option (List Byte)) : (Event.transfer (frameW1 p.regMap a v) rx).opmodeByte p.regMap = none :=
  opmodeByte_frameWN h [v] rx

theorem opmodeByte_modeWrite (p : Params) (v : Byte) (rx : Option (List Byte)) :
    (Event.transfer (frameW1 p.regMap p.regMap.aOpmode v) rx).opmodeByte p.regMap = some v := if_pos rfl

/-- The codes lie within the mode field (R40). -/
theorem modeCode_and_not_modeMask (p : Params) (m : OpMode) : modeCode p.regMap m &&& ~~~p.regMap.modeMask = 0 := by
  have hwf := p.regMapWf
  simp only [RegMap.wf, RegMap.wfMode, Bool.and_eq_true, List.all_cons, List.all_nil, beq_iff_eq] at hwf
  obtain ⟨⟨⟨-, ⟨⟨⟨-, hstandby, hreceive, htransmit, -⟩, -⟩, -⟩, -⟩, -⟩, -⟩ := hwf
  cases m with
  | standby => exact hstandby
  | receive => exact hreceive
  | transmit => exact htransmit

/-- What `MODE` writes has the mode's code in the mode field (R170). -/
theorem modeFn_and_modeMask (p : Params) (m : OpMode) (v : Byte) :
    modeFn p.regMap m v &&& p.regMap.modeMask = modeCode p.regMap m := by
  have hcode : modeCode p.regMap m &&& p.regMap.modeMask = modeCode p.regMap m := by
    have hsplit := and_or_and_not (modeCode p.regMap m) p.regMap.modeMask
    rw [modeCode_and_not_modeMask] at hsplit
    simpa using hsplit
  calc modeFn p.regMap m v &&& p.regMap.modeMask
      = ((v &&& ~~~p.regMap.modeMask) &&& p.regMap.modeMask) ||| (modeCode p.regMap m &&& p.regMap.modeMask) := by
        ext i
        simp [modeFn, editFn, Bool.and_or_distrib_right]
    _ = modeCode p.regMap m := by simp [and_not_and, hcode]

/-- After the answered write of a `MODE` its mode is the one last written (R170). -/
@[simp] theorem justified_modeWrite (p : Params) (m : OpMode) (v : Byte) (trace : List Event) (rx : Option (List Byte)) :
    Justified p.regMap (some m)
      (trace ++ [.transfer (frameW1 p.regMap p.regMap.aOpmode (modeFn p.regMap m v)) rx]) := by
  rintro m' hm
  cases hm
  exact ⟨_, lastOpmodeByte_append_some trace (opmodeByte_modeWrite p _ rx), modeFn_and_modeMask p m v⟩

/-! ### Belief at the end of a line -/

@[simp] theorem believes_goto_iff {s : State} {q : Pos} :
    (s.goto q).believes ↔ Justified s.params.regMap s.modeShadow s.trace ∧ (q.isModeWrite = true → s.modeShadow = none) := by
  refine and_congr Iff.rfl ⟨fun h hq => h q rfl hq, fun h p hp hwrite => ?_⟩
  obtain rfl : q = p := Seq.running.inj hp
  exact h hwrite

/-- At `Idle`, after a response, belief is I1 alone. -/
theorem believes_respond_iff {s : State} {bytes : List Byte} :
    (s.respond bytes).believes ↔ Justified s.params.regMap s.modeShadow s.trace := by
  have hjust : (s.respond bytes).shadowTrue ↔ Justified s.params.regMap s.modeShadow s.trace :=
    justified_append_iff (opmodeByte_response ..)
  exact ⟨fun h => hjust.mp h.1, fun h => ⟨hjust.mpr h, fun p hp => by cases hp⟩⟩

@[simp] theorem believes_finish_iff {s : State} {value : List Byte} :
    (s.finish value).believes ↔ Justified s.params.regMap s.modeShadow s.trace := believes_respond_iff

@[simp] theorem believes_raise_iff {s : State} {e : Err} :
    (s.raise e).believes ↔ Justified s.params.regMap s.modeShadow s.trace := believes_respond_iff

@[simp] theorem believes_raiseSetup_iff {s : State} {e : Err} :
    (s.raiseSetup e).believes ↔ Justified s.params.regMap s.modeShadow s.trace :=
  believes_respond_iff (s := s.dropConfig)

@[simp] theorem believes_finishSetup_iff {s : State} :
    s.finishSetup.believes ↔ Justified s.params.regMap s.modeShadow s.trace :=
  believes_respond_iff (s := s.setDone.dropConfig)

@[simp] theorem believes_raiseRxs_iff {s : State} {e : Err} :
    (s.raiseRxs e).believes ↔ Justified s.params.regMap s.modeShadow s.trace :=
  believes_respond_iff (s := { s with arbEnabled := false, evtPending := false, errSlot := none })

@[simp] theorem storeFirst_modeShadow (d : Int) (l : RecipeLine) (s : State) :
    (storeFirst d l s).modeShadow = s.modeShadow := by
  unfold storeFirst
  split <;> rfl

@[simp] theorem storeFirst_trace (d : Int) (l : RecipeLine) (s : State) : (storeFirst d l s).trace = s.trace := by
  unfold storeFirst
  split <;> rfl

/-! ### Each line keeps belief -/

theorem recipeWrite_apart {p : Params} (hapart : opmodeApart p.regMap = true) (d : Int) (l : RecipeLine) :
    sameRegister p.regMap (recipeWrite p d l).1 p.regMap.aOpmode = false := by
  simp [opmodeApart] at hapart
  cases l <;> simp [recipeWrite, hapart]

/-- The registers the operations write are not the mode register. -/
theorem roles_apart {r : RegMap} (hapart : opmodeApart r = true) :
    sameRegister r r.aFifo r.aOpmode = false ∧ sameRegister r r.aIrqFlags r.aOpmode = false ∧
    sameRegister r r.aSync r.aOpmode = false ∧ sameRegister r r.aDioMap r.aOpmode = false ∧
    sameRegister r r.aPktCfg r.aOpmode = false ∧ sameRegister r r.aBias1 r.aOpmode = false ∧
    sameRegister r r.aBias2 r.aOpmode = false := by
  simp [opmodeApart] at hapart
  simp [hapart]

theorem believes_lineMode {s : State} (m : OpMode) {l : EditLine}
    (hwrite : (Pos.mode m l).isModeWrite = true → s.modeShadow = none) : (lineMode s m l).Keeps State.believes s := by
  cases l with
  | e1 => simp [lineMode]
  | e2 => simp [lineMode, hwrite rfl]

section
variable {s : State} (hjust : Justified s.params.regMap s.modeShadow s.trace)
include hjust

theorem believes_lineEd {a clr set : Byte} (hduty : sameRegister s.params.regMap a s.params.regMap.aOpmode = false)
    (l : EditLine) : (lineEd s a clr set l).Keeps State.believes s := by
  cases l <;> simp [lineEd, Pos.isModeWrite, hjust, hduty]

theorem believes_lineRstp (l : PulseLine) : (lineRstp l).Keeps State.believes s := by
  cases l <;> simp [lineRstp, Pos.isModeWrite, hjust]

theorem believes_lineWaitf (f : Flag) (h : LoopHead) : (lineWaitf s f h).Keeps State.believes s := by
  cases h <;> simp [lineWaitf, Pos.isModeWrite, hjust]

variable (hapart : opmodeApart s.params.regMap = true)
include hapart

theorem believes_linePwr (d : Byte) (l : RecipeLine) : (linePwr s d l).Keeps State.believes s := by
  have hrecipe := recipeWrite_apart hapart (clampPower d.toInt) l
  cases l <;> simp [linePwr, RecipeLine.advance, RecipeLine.next, Pos.isModeWrite, hjust, hrecipe]

theorem believes_lineSync (sentinel : Byte) (l : SyncLine) : (lineSync s sentinel l).Keeps State.believes s := by
  obtain ⟨-, -, hsync, -⟩ := roles_apart hapart
  cases l with
  | y1 h => cases h <;> simp [lineSync, Pos.isModeWrite, hjust]
  | y2 => simp [lineSync, Pos.isModeWrite, hjust, hsync]

/-- The pair that `S4` writes is one of the Config, which the host's duty keeps off the mode register (R309). -/
theorem believes_lineSetup {cfg : List (Byte × Byte)} {l : SetupLine} (hpos : s.posOk (.setup cfg l))
    (hduty : ∀ pair ∈ cfg, sameRegister s.params.regMap pair.1 s.params.regMap.aOpmode = false) :
    (lineSetup s cfg l).Keeps State.believes s := by
  obtain ⟨-, -, hsync, -⟩ := roles_apart hapart
  cases l with
  | s1 l => cases l <;> simp [lineSetup, Pos.isModeWrite, hjust]
  | s2 l =>
    cases l with
    | y1 h => cases h <;> simp [lineSetup, Pos.isModeWrite, hjust]
    | y2 => simp [lineSetup, Pos.isModeWrite, hjust, hsync]
  | s3 l =>
    cases l with
    | y1 h => cases h <;> simp [State.gotoPower, Pos.isModeWrite, hjust]
    | y2 => simp [lineSetup, Pos.isModeWrite, hjust, hsync]
  | s4 =>
    obtain ⟨-, hcfg, hpair⟩ := hpos
    have hmem : s.cfg.getD s.cfgI (0, 0) ∈ cfg := by
      rw [List.getD_eq_getElem _ _ hpair, ← hcfg]
      exact List.getElem_mem hpair
    have hwritten := hduty _ hmem
    simp only [keeps_lineSetup_s4]
    generalize s.cfg.getD s.cfgI (0, 0) = pair at hwritten
    simp [State.gotoPower, Pos.isModeWrite, hjust, hwritten]
  | s5 l =>
    have hrecipe := recipeWrite_apart hapart (clampPower s.params.initialPower) l
    cases l <;> simp [lineSetup, RecipeLine.advance, RecipeLine.next, Pos.isModeWrite, hjust, hrecipe]

theorem believes_lineSend {dst : Byte} {payload : List Byte} {l : SendLine}
    (hwrite : (Pos.send dst payload l).isModeWrite = true → s.modeShadow = none) :
    (lineSend s dst payload l).Keeps State.believes s := by
  obtain ⟨hfifo, hirq, -, hdio, -⟩ := roles_apart hapart
  cases l with
  | t1 l | t6 l | t7 l =>
    cases l with
    | e1 => simp [lineSend, Pos.isModeWrite]
    | e2 => simp [lineSend, Pos.isModeWrite, hwrite rfl]
  | t1w h | t6w h | t7w h => cases h <;> simp [lineSend, Pos.isModeWrite, hjust]
  | t3 l =>
    have hrecipe := recipeWrite_apart hapart (configuredPower s) l
    cases l <;> simp [lineSend, RecipeLine.advance, RecipeLine.next, Pos.isModeWrite, hjust, hrecipe]
  | t7p l =>
    have hrecipe := recipeWrite_apart hapart s.params.idlePower l
    cases l <;> simp [lineSend, RecipeLine.advance, RecipeLine.next, Pos.isModeWrite, hjust, hrecipe]
  | t2 | t4 | t5 => simp [lineSend, Pos.isModeWrite, hjust, hfifo, hirq, hdio]

theorem believes_lineRxs {l : RxsLine} (hwrite : (Pos.rxs l).isModeWrite = true → s.modeShadow = none) :
    (lineRxs s l).Keeps State.believes s := by
  obtain ⟨-, -, -, hdio, hpktCfg, hbias1, hbias2⟩ := roles_apart hapart
  cases l with
  | a3 l =>
    cases l with
    | e1 => simp [lineRxs, Pos.isModeWrite]
    | e2 => simp [lineRxs, Pos.isModeWrite, hwrite rfl]
  | a1r l => cases l <;> simp [lineRxs, Pos.isModeWrite, hjust, hpktCfg]
  | a0 | w2 | l7 => simp [lineRxs, Line.Keeps, Pos.isModeWrite, hjust]
  | a1 | l4 => simp [Pos.isModeWrite, hjust]
  | a2 | a4 | a5 | l3 | l6 => simp [lineRxs, Pos.isModeWrite, hjust, hdio, hbias1, hbias2]

end

/-- Under the host's duty every line keeps belief (R309). -/
theorem believes_lineAt {s : State} {p : Pos} (h : s.believes) (hs : s.seq = .running p) (hpos : s.posOk p)
    (hapart : opmodeApart s.params.regMap = true) (hduty : writesOpmode s.params.regMap p.instr = false) :
    (lineAt s p).Keeps State.believes s := by
  have hjust := (shadowTrue_iff s).mp h.1
  have hwrite := h.2 p hs
  cases p with
  | rd | brd => simp [lineAt, lineRd, lineBrd, hjust]
  | wr a v =>
    have hduty' : sameRegister s.params.regMap a s.params.regMap.aOpmode = false := hduty
    simp [lineAt, lineWr, hjust, hduty']
  | bwr a bytes =>
    have hduty' : sameRegister s.params.regMap a s.params.regMap.aOpmode = false := hduty
    simp [lineAt, lineBwr, hjust, hduty']
  | ed a clr set l => exact believes_lineEd hjust hduty l
  | pwr d l => exact believes_linePwr hjust hapart d l
  | rstp l => exact believes_lineRstp hjust l
  | sync sentinel l => exact believes_lineSync hjust hapart sentinel l
  | setup cfg l => exact believes_lineSetup hjust hapart hpos (by simpa [writesOpmode, Pos.instr] using hduty)
  | mode m l => exact believes_lineMode m hwrite
  | waitf f head => exact believes_lineWaitf hjust f head
  | send dst payload l => exact believes_lineSend hjust hapart hwrite
  | rxs l => exact believes_lineRxs hjust hapart hwrite

/-- No command begins at the write of a `MODE`. -/
theorem isModeWrite_firstLine {q : Params} {i : Instr} {p : Pos} (h : firstLine q i = some p) : p.isModeWrite = false := by
  cases i with
  | pwr d => rw [firstLine_pwr] at h; cases h; rfl
  | busR1 | busW1 | busRN | busWN | fifoFrame => cases h
  | _ => cases h; rfl

/-- Settles O55: every line keeps belief; a refusal is no write, an accepted command none yet, block reset leaves no mode. -/
theorem believedModeKept : Obligations.BelievedModeKept := by
  intro s t hinv hapart hduty h hstep
  refine step_keeps hstep (fun _ => h) (fun ts e => ?refuse) ?accept (fun ts => ?irq) (fun rest _ => ?reset) fun p ts hs => ?line
  case refuse => exact ⟨(justified_append_iff (opmodeByte_response ..)).mpr h.1, h.2⟩
  case accept =>
    intro op operands rest i p _ hs _ _ hfirst
    refine (believes_goto_iff (s := (s.latched i).withEnv rest)).mpr ⟨?_, fun hwrite => ?_⟩
    · simpa using (shadowTrue_iff s).mp h.1
    · rw [isModeWrite_firstLine hfirst] at hwrite
      cases hwrite
  case irq =>
    rw [irqRise_eq]
    exact h
  case reset => exact ⟨justified_none _ _, fun _ _ _ => rfl⟩
  case line =>
    rw [← lineAt_withEnv s ts]
    exact believes_lineAt (s := s.withEnv ts) h hs ((hinv.withEnv ts).position p hs) hapart (hduty.1 p hs)

end Sys2Proof.Machine
end

section
/-! PROOFS: how an operation ends. It is answered once, when it ends; what a failed transaction does at each position; what
block reset leaves on record. -/

namespace Sys2Proof.Machine

/-! ### The run of one operation -/

theorem Line.Keeps.and {P Q : State → Prop} {s : State} {l : Line} (hP : l.Keeps P s) (hQ : l.Keeps Q s) :
    l.Keeps (fun u => P u ∧ Q u) s := by
  cases l with
  | transfer tx ok err => exact ⟨fun rx hrx => ⟨hP.1 rx hrx, hQ.1 rx hrx⟩, hP.2, hQ.2⟩
  | setReset level ok err => exact ⟨⟨hP.1, hQ.1⟩, hP.2, hQ.2⟩
  | hold micros ok => exact ⟨hP, hQ⟩
  | free ok => exact ⟨hP, hQ⟩
  | wait ok => exact fun hpending => ⟨hP hpending, hQ hpending⟩
  | offer p ok => exact ⟨hP, hQ⟩

section
variable {P : State → Prop} {i : Instr} (henv : ∀ u ts, P u → P (u.withEnv ts))
  (hk : ∀ u q, P u → u.seq = .running q → q.instr = i → (lineAt u q).Keeps P u)
include henv hk

/-- What the lines of an operation keep, its run keeps. -/
theorem drive_operation_keeps {s : State} (h : P s) (hs : ∀ q, s.seq = .running q → q.instr = i) (ts : List Turn) :
    P (drive ts s) := by
  refine (drive_lines_keep (P := fun u => P u ∧ ∀ q, u.seq = .running q → q.instr = i)
    (fun u ts hu => ⟨henv u ts hu.1, hu.2⟩) (fun u q hu hq => ?_) ts s ⟨h, hs⟩).1
  have hi := hu.2 q hq
  exact (hk u q hu.1 hq hi).and ((within_lineAt u q).mono fun v hv => hi ▸ hv.2)

/-- So does a command that is issued, refused or accepted. -/
theorem exec_keeps {s t : State} (hcmd : i.format = .cmd) (h : exec i s = .next t) (hrefuse : ∀ e, P (s.refuse e))
    (hstart : ∀ p, firstLine s.params i = some p → P ((s.latched i).goto p)) : P t := by
  obtain ⟨start, p, hfirst, hstart', hexec⟩ := exec_eq_issue_firstLine hcmd s
  rw [hexec] at h
  obtain ⟨e, -, h'⟩ | ⟨-, h'⟩ := issue_cases (needsSetup i) (exceedsPayload i) start s <;> rw [h'] at h <;> cases h
  · exact hrefuse e
  · rw [hstart']
    refine drive_operation_keeps henv hk (hstart p hfirst) (fun q hq => ?_) s.env
    cases hq
    exact instr_firstLine hfirst

/-- So does a step or a run of lines that takes the operation up at a line. -/
theorem goesOnTo_keeps {s t : State} {p : Pos} (hs : s.seq = .running p) (hp : p.instr = i) (hgo : s.goesOnTo t) (h : P s)
    (hrefuse : ∀ ts e, P ((s.withEnv ts).refuse e)) (hirq : ∀ ts, P (s.withEnv ts).irqRise)
    (hreset : ∀ rest, s.env = .blockReset :: rest → P (s.withEnv rest).blockReset) : P t := by
  obtain hstep | rfl := hgo
  · refine step_keeps hstep (fun ts => henv s ts h) hrefuse ?_ hirq hreset fun q ts hq => ?_
    · intro op operands rest i' p' _ hidle
      rw [hs] at hidle
      cases hidle
    · obtain rfl : p = q := by rw [hs] at hq; exact Seq.running.inj hq
      rw [← lineAt_withEnv s ts]
      exact hk _ p (henv s ts h) hs hp
  · exact drive_operation_keeps henv hk h (fun q hq => by rw [hs] at hq; cases hq; exact hp) s.env

end

/-! ### What is added to the record -/

/-- From the record `t` to the record `t'` only events with `Q` were added. -/
def Adds (Q : Event → Prop) (t t' : List Event) : Prop := ∃ es, t' = t ++ es ∧ ∀ e ∈ es, Q e

@[simp] theorem adds_self (Q : Event → Prop) (t : List Event) : Adds Q t t := ⟨[], by simp, by simp⟩

@[simp] theorem adds_append_iff {Q : Event → Prop} {t es : List Event} : Adds Q t (t ++ es) ↔ ∀ e ∈ es, Q e := by
  constructor
  · rintro ⟨es', hes, hQ⟩
    obtain rfl : es = es' := List.append_cancel_left hes
    exact hQ
  · exact fun h => ⟨es, rfl, h⟩

theorem Adds.trans {Q : Event → Prop} {t t' t'' : List Event} (h : Adds Q t t') (h' : Adds Q t' t'') : Adds Q t t'' := by
  obtain ⟨es, rfl, hQ⟩ := h
  obtain ⟨es', rfl, hQ'⟩ := h'
  exact ⟨es ++ es', by simp, fun e he => (List.mem_append.mp he).elim (hQ e) (hQ' e)⟩

/-- No response, and an answer as long as its frame (R7, R90). -/
def Event.Plain : Event → Prop
  | .response _ => False
  | .transfer tx (some rx) => rx.length = tx.length
  | .transfer _ none | .setReset _ _ | .hold _ | .packet _ | .transferForgotten _ | .setResetForgotten _ => True

/-- From `s` to `u` no response was made while the operation is in progress, and exactly one, the last, when it has ended
(R90). -/
def AnsweredOnce (s u : State) : Prop :=
  ((∃ p, u.seq = .running p) ∧ Adds Event.Plain s.trace u.trace) ∨
  (u.seq = .idle ∧ ∃ t bytes, Adds Event.Plain s.trace t ∧ u.trace = t ++ [.response bytes])

@[simp] theorem answeredOnce_goto_iff {s u : State} {q : Pos} :
    AnsweredOnce s (u.goto q) ↔ Adds Event.Plain s.trace u.trace := by
  constructor
  · rintro (⟨-, h⟩ | ⟨hidle, -⟩)
    · exact h
    · cases hidle
  · exact fun h => .inl ⟨⟨q, rfl⟩, h⟩

theorem answeredOnce_ended_iff {s u v : State} {bytes : List Byte} (hidle : v.seq = .idle)
    (htrace : v.trace = u.trace ++ [.response bytes]) : AnsweredOnce s v ↔ Adds Event.Plain s.trace u.trace := by
  constructor
  · rintro (⟨⟨p, hp⟩, -⟩ | ⟨-, t, b, h, ht⟩)
    · rw [hidle] at hp
      cases hp
    · obtain rfl : u.trace = t := List.append_inj_left' (htrace.symm.trans ht) rfl
      exact h
  · exact fun h => .inr ⟨hidle, u.trace, bytes, h, htrace⟩

@[simp] theorem answeredOnce_finish_iff {s u : State} {value : List Byte} :
    AnsweredOnce s (u.finish value) ↔ Adds Event.Plain s.trace u.trace := answeredOnce_ended_iff rfl rfl

@[simp] theorem answeredOnce_raise_iff {s u : State} {e : Err} :
    AnsweredOnce s (u.raise e) ↔ Adds Event.Plain s.trace u.trace := answeredOnce_ended_iff rfl rfl

@[simp] theorem answeredOnce_raiseSetup_iff {s u : State} {e : Err} :
    AnsweredOnce s (u.raiseSetup e) ↔ Adds Event.Plain s.trace u.trace := answeredOnce_ended_iff rfl rfl

@[simp] theorem answeredOnce_finishSetup_iff {s u : State} :
    AnsweredOnce s u.finishSetup ↔ Adds Event.Plain s.trace u.trace := answeredOnce_ended_iff rfl rfl

@[simp] theorem answeredOnce_raiseRxs_iff {s u : State} {e : Err} :
    AnsweredOnce s (u.raiseRxs e) ↔ Adds Event.Plain s.trace u.trace := answeredOnce_ended_iff rfl rfl

theorem answeredOnce_lineSetup (s : State) (cfg : List (Byte × Byte)) (l : SetupLine) :
    (lineSetup s cfg l).Keeps (AnsweredOnce s) s := by
  cases l with
  | s1 l => cases l <;> simp [lineSetup, Event.Plain]
  | s2 l =>
    cases l with
    | y1 h => cases h <;> simp [lineSetup, Event.Plain]
    | y2 => simp [lineSetup, Event.Plain]
  | s3 l =>
    cases l with
    | y1 h => cases h <;> simp [State.gotoPower, Event.Plain]
    | y2 => simp [lineSetup, Event.Plain]
  | s4 => simp [State.gotoPower, Event.Plain]
  | s5 l => cases l <;> simp [lineSetup, RecipeLine.advance, RecipeLine.next, Event.Plain]

theorem answeredOnce_lineSend (s : State) (dst : Byte) (payload : List Byte) (l : SendLine) :
    (lineSend s dst payload l).Keeps (AnsweredOnce s) s := by
  cases l with
  | t1 l | t6 l | t7 l => cases l <;> simp [lineSend, Event.Plain]
  | t1w h | t6w h | t7w h => cases h <;> simp [lineSend, Event.Plain]
  | t3 l | t7p l => cases l <;> simp [lineSend, RecipeLine.advance, RecipeLine.next, Event.Plain]
  | t2 | t4 | t5 => simp +contextual [lineSend, Event.Plain]

theorem answeredOnce_lineRxs (s : State) (l : RxsLine) : (lineRxs s l).Keeps (AnsweredOnce s) s := by
  cases l with
  | a0 | w2 | l7 => simp [lineRxs, Line.Keeps, Event.Plain]
  | a1 => simp [Event.Plain]
  | l4 => simp +contextual [Event.Plain]
  | a1r l | a3 l => cases l <;> simp [lineRxs, Event.Plain]
  | a2 | a4 | a5 | l3 | l6 => simp +contextual [lineRxs, Event.Plain]

/-- A line makes a response exactly where it ends its operation (R90). -/
theorem answeredOnce_lineAt (s : State) (p : Pos) : (lineAt s p).Keeps (AnsweredOnce s) s := by
  cases p with
  | rd | wr | brd | bwr => simp +contextual [lineAt, lineRd, lineWr, lineBrd, lineBwr, Event.Plain]
  | ed a clr set l => cases l <;> simp [lineAt, lineEd, Event.Plain]
  | pwr d l => cases l <;> simp [lineAt, linePwr, RecipeLine.advance, RecipeLine.next, Event.Plain]
  | rstp l => cases l <;> simp [lineAt, lineRstp, Event.Plain]
  | sync sentinel l =>
    cases l with
    | y1 h => cases h <;> simp [lineAt, lineSync, Event.Plain]
    | y2 => simp [lineAt, lineSync, Event.Plain]
  | setup cfg l => exact answeredOnce_lineSetup s cfg l
  | mode m l => cases l <;> simp [lineAt, lineMode, Event.Plain]
  | waitf f h => cases h <;> simp [lineAt, lineWaitf, Event.Plain]
  | send dst payload l => exact answeredOnce_lineSend s dst payload l
  | rxs l => exact answeredOnce_lineRxs s l

theorem AnsweredOnce.trans {s u v : State} (h : Adds Event.Plain s.trace u.trace) (h' : AnsweredOnce u v) :
    AnsweredOnce s v := by
  obtain ⟨hrun, hadds⟩ | ⟨hidle, t, bytes, hadds, htrace⟩ := h'
  · exact .inl ⟨hrun, h.trans hadds⟩
  · exact .inr ⟨hidle, t, bytes, h.trans hadds, htrace⟩

theorem AnsweredOnce.adds {s u : State} (h : AnsweredOnce s u) {q : Pos} (hq : u.seq = .running q) :
    Adds Event.Plain s.trace u.trace := by
  obtain ⟨-, hadds⟩ | ⟨hidle, -⟩ := h
  · exact hadds
  · rw [hidle] at hq
    cases hq

/-- So does a run of lines. -/
theorem answeredOnce_drive {s u : State} (h : AnsweredOnce s u) (ts : List Turn) : AnsweredOnce s (drive ts u) :=
  drive_lines_keep (P := AnsweredOnce s) (fun _ _ hv => hv)
    (fun v q hv hq => (answeredOnce_lineAt v q).mono fun _ hw => hw.trans (hv.adds hq)) ts u h

theorem answeredOnce_of_exec {i : Instr} {s t : State} (hcmd : i.format = .cmd) (hs : s.seq = .idle)
    (h : exec i s = .next t) : AnsweredOnce s t := by
  obtain ⟨start, p, -, hstart, hexec⟩ := exec_eq_issue_firstLine hcmd s
  rw [hexec] at h
  obtain ⟨e, -, h'⟩ | ⟨-, h'⟩ := issue_cases (needsSetup i) (exceedsPayload i) start s <;> rw [h'] at h <;> cases h
  · exact .inr ⟨hs, s.trace, e.response, adds_self .., rfl⟩
  · rw [hstart]
    exact answeredOnce_drive (answeredOnce_goto_iff.mpr (by simp)) s.env

/-- Settles O47: by the record of a line, a run of lines and an acceptance. -/
theorem oneResponse : Obligations.OneResponse := by
  intro s t h
  have hanswered : AnsweredOnce s t := by
    obtain ⟨i, hcmd, hs, hexec⟩ | ⟨⟨p, hs⟩, ⟨turn, rest, henv, hturn⟩, hstep | rfl⟩ := h
    · exact answeredOnce_of_exec hcmd hs hexec
    · rw [step_running_line hs henv hturn, ← lineAt_withEnv s rest] at hstep
      cases hstep
      exact complete_keeps (.inl ⟨⟨p, hs⟩, adds_self ..⟩) (answeredOnce_lineAt (s.withEnv rest) p) turn
    · exact answeredOnce_drive (.inl ⟨⟨p, hs⟩, adds_self ..⟩) s.env
  obtain ⟨hrun, es, htrace, hplain⟩ | ⟨hidle, _, bytes, ⟨es, rfl, hplain⟩, htrace⟩ := hanswered
  · exact ⟨es, fun b hb => hplain _ hb, .inr ⟨hrun, htrace⟩⟩
  · exact ⟨es, fun b hb => hplain _ hb, .inl ⟨hidle, bytes, htrace⟩⟩

/-! ### Answers as long as frames (R7) -/

/-- Every answered transaction on the record has an answer as long as its frame. -/
def AnswersFit (trace : List Event) : Prop := ∀ tx rx, Event.transfer tx (some rx) ∈ trace → rx.length = tx.length

theorem AnswersFit.append {t es : List Event} (h : AnswersFit t)
    (hes : ∀ tx rx, Event.transfer tx (some rx) ∈ es → rx.length = tx.length) : AnswersFit (t ++ es) :=
  fun tx rx hmem => (List.mem_append.mp hmem).elim (h tx rx) (hes tx rx)

theorem AnswersFit.response {t : List Event} (h : AnswersFit t) (bytes : List Byte) :
    AnswersFit (t ++ [.response bytes]) := h.append fun tx rx hmem => by simp at hmem

theorem AnswersFit.adds {t t' : List Event} (h : AnswersFit t) (hadds : Adds Event.Plain t t') : AnswersFit t' := by
  obtain ⟨es, rfl, hplain⟩ := hadds
  exact h.append fun tx rx hmem => hplain _ hmem

/-- What block reset notes is no answered transaction. -/
theorem forgotten_no_answer (s : State) (tx rx : List Byte) : Event.transfer tx (some rx) ∉ s.forgotten := by
  unfold State.forgotten Line.forgotten
  split
  · simp
  · split <;> simp

/-- Settles O56: a line adds answers that fit, and the other turns add none. -/
theorem answersAsLongAsFrames : Obligations.AnswersAsLongAsFrames := by
  intro s t h hstep
  have hfit : AnswersFit s.trace := h
  refine step_keeps (P := fun u => AnswersFit u.trace) hstep (fun _ => hfit) (fun _ e => hfit.response e.response)
    (fun _ _ _ i p _ _ _ _ _ => by simpa using hfit) (fun ts => by rw [irqRise_eq]; exact hfit)
    (fun rest _ => hfit.append fun tx rx hmem => absurd hmem (forgotten_no_answer _ tx rx)) fun p ts hs => ?_
  refine (answeredOnce_lineAt (s.withEnv ts) p).mono fun u hu => ?_
  obtain ⟨-, hadds⟩ | ⟨-, t, bytes, hadds, htrace⟩ := hu
  · exact hfit.adds hadds
  · rw [htrace]
    exact (hfit.adds hadds).response bytes

/-! ### `RXS` never answers `Ok` (R210) -/

/-- No response with status `Ok`. -/
def Event.NotOk (e : Event) : Prop := ∀ bytes, e ≠ .response (0x00 :: bytes)

theorem code_ne_zero (e : Err) : e.code ≠ 0x00 := by cases e <;> simp [Err.code]

@[simp] theorem err_response_ne_ok (e : Err) (bytes : List Byte) : e.response ≠ 0#8 :: bytes := fun h =>
  code_ne_zero e (List.cons.inj h).1

theorem notOk_lineRxs (s : State) (l : RxsLine) : (lineRxs s l).Keeps (fun u => Adds Event.NotOk s.trace u.trace) s := by
  cases l with
  | a0 | w2 | l7 => simp [lineRxs, Line.Keeps, Event.NotOk]
  | a1 | l4 => simp [Event.NotOk]
  | a1r l | a3 l => cases l <;> simp [lineRxs, Event.NotOk]
  | a2 | a4 | a5 | l3 | l6 => simp [lineRxs, Event.NotOk]

theorem forgotten_no_response (s : State) (bytes : List Byte) : Event.response bytes ∉ s.forgotten := by
  unfold State.forgotten Line.forgotten
  split
  · simp
  · split <;> simp

/-- Settles O36: no line of `RXS` responds with `Ok`, nor does any other turn. -/
theorem rxsNeverOk : Obligations.RxsNeverOk := by
  intro s t h
  let P : State → Prop := fun u => Adds Event.NotOk s.trace u.trace
  have henv : ∀ u ts, P u → P (u.withEnv ts) := fun u ts hu => hu
  have hk : ∀ u q, P u → u.seq = .running q → q.instr = .rxs → (lineAt u q).Keeps P u := by
    intro u q hu _ hq
    cases q with
    | rxs l => exact (notOk_lineRxs u l).mono fun v hv => hu.trans hv
    | _ => cases hq
  have hrefuse : ∀ e, P (s.refuse e) := fun e => adds_append_iff.mpr (by simp [Event.NotOk])
  have hadds : P t := by
    obtain ⟨-, hexec⟩ | ⟨⟨l, hs⟩, hgo⟩ := h
    · exact exec_keeps henv hk rfl hexec hrefuse fun p hp => by cases hp; exact adds_self ..
    · refine goesOnTo_keeps henv hk hs rfl hgo (adds_self ..) (fun _ e => hrefuse e)
        (fun ts => by rw [irqRise_eq]; exact adds_self ..) fun rest _ => adds_append_iff.mpr fun e he bytes hb => ?_
      exact forgotten_no_response _ _ (hb ▸ he)
  obtain ⟨es, htrace, hno⟩ := hadds
  exact ⟨es, htrace, fun bytes hmem => hno _ hmem bytes rfl⟩

/-! ### A failed transaction -/

/-- Where the line is a `Transfer`, what holds of its frame and of the state after its failure. -/
def Line.Fails (P : List Byte → State → Prop) (s : State) : Line → Prop
  | .transfer tx _ err => P tx (err (.busError (tx.headD 0)) (s.transact tx .err))
  | .setReset _ _ _ | .hold _ _ | .free _ | .wait _ | .offer _ _ => True

section
variable {P : List Byte → State → Prop} {s : State}

@[simp] theorem fails_readLine {r : RegMap} {a : Byte} {ok : Byte → State → State} {fail : Err → State → State} :
    (readLine r a ok fail).Fails P s ↔
      P (frameR1 r a) (fail (.busError (addrByte r a .read)) (s.transact (frameR1 r a) .err)) := Iff.rfl

@[simp] theorem fails_writeLine {r : RegMap} {a v : Byte} {ok : State → State} {fail : Err → State → State} :
    (writeLine r a v ok fail).Fails P s ↔
      P (frameW1 r a v) (fail (.busError (addrByte r a .write)) (s.transact (frameW1 r a v) .err)) := Iff.rfl

@[simp] theorem fails_burstReadLine {r : RegMap} {a : Byte} {n : Nat} {ok : List Byte → State → State}
    {fail : Err → State → State} :
    (burstReadLine r a n ok fail).Fails P s ↔
      P (frameRN r a n) (fail (.busError (addrByte r a .read)) (s.transact (frameRN r a n) .err)) := Iff.rfl

@[simp] theorem fails_burstWriteLine {r : RegMap} {a : Byte} {bytes : List Byte} {ok : State → State}
    {fail : Err → State → State} :
    (burstWriteLine r a bytes ok fail).Fails P s ↔
      P (frameWN r a bytes) (fail (.busError (addrByte r a .write)) (s.transact (frameWN r a bytes) .err)) := Iff.rfl

@[simp] theorem fails_pokeWriteLine {r : RegMap} {a v : Byte} {ok : State → State} {fail : Err → State → State} :
    (pokeWriteLine r a v ok fail).Fails P s ↔
      P (frameW1 r a v) (tryErr ok fail (.busError (addrByte r a .write)) (s.transact (frameW1 r a v) .err)) := Iff.rfl

@[simp] theorem fails_pokeEditLine_e1 {u : State} {a : Byte} {fn : Byte → Byte} {at2 ok skip : State → State}
    {fail : Err → State → State} :
    (pokeEditLine u a fn at2 ok skip fail .e1).Fails P s ↔
      P (frameR1 u.params.regMap a) (tryErr skip fail (.busError (addrByte u.params.regMap a .read))
        (s.transact (frameR1 u.params.regMap a) .err)) := Iff.rfl

@[simp] theorem fails_pokeEditLine_e2 {u : State} {a : Byte} {fn : Byte → Byte} {at2 ok skip : State → State}
    {fail : Err → State → State} :
    (pokeEditLine u a fn at2 ok skip fail .e2).Fails P s ↔
      P (frameW1 u.params.regMap a (fn u.editOld)) (tryErr skip fail (.busError (addrByte u.params.regMap a .write))
        (s.transact (frameW1 u.params.regMap a (fn u.editOld)) .err)) := Iff.rfl

@[simp] theorem fails_modeLine_e1 {u : State} {m : OpMode} {at2 ok : State → State} {fail : Err → State → State} :
    (modeLine u m at2 ok fail .e1).Fails P s ↔
      P (frameR1 u.params.regMap u.params.regMap.aOpmode)
        (tryErr ok fail (.busError (addrByte u.params.regMap u.params.regMap.aOpmode .read))
          (s.transact (frameR1 u.params.regMap u.params.regMap.aOpmode) .err).clearShadow) := Iff.rfl

@[simp] theorem fails_modeLine_e2 {u : State} {m : OpMode} {at2 ok : State → State} {fail : Err → State → State} :
    (modeLine u m at2 ok fail .e2).Fails P s ↔
      P (frameW1 u.params.regMap u.params.regMap.aOpmode (modeFn u.params.regMap m u.editOld))
        (tryErr ok fail (.busError (addrByte u.params.regMap u.params.regMap.aOpmode .write))
          (s.transact (frameW1 u.params.regMap u.params.regMap.aOpmode (modeFn u.params.regMap m u.editOld)) .err)) :=
  Iff.rfl

@[simp] theorem fails_recipeLine {p : Params} {d : Int} {goto : RecipeLine → State → State} {ok : State → State}
    {fail : Err → State → State} {l : RecipeLine} :
    (recipeLine p d goto ok fail l).Fails P s ↔
      P (frameW1 p.regMap (recipeWrite p d l).1 (recipeWrite p d l).2)
        (tryErr (l.advance goto ok) fail (.busError (addrByte p.regMap (recipeWrite p d l).1 .write))
          (s.transact (frameW1 p.regMap (recipeWrite p d l).1 (recipeWrite p d l).2) .err)) := Iff.rfl

@[simp] theorem fails_powerLine {u : State} {d : Int} {goto : RecipeLine → State → State} {ok : State → State}
    {fail : Err → State → State} {l : RecipeLine} :
    (powerLine u d goto ok fail l).Fails P s ↔
      P (frameW1 u.params.regMap (recipeWrite u.params (clampPower d) l).1 (recipeWrite u.params (clampPower d) l).2)
        (tryErr (l.advance goto ok) fail (.busError (addrByte u.params.regMap (recipeWrite u.params (clampPower d) l).1 .write))
          (storeFirst d l (s.transact (frameW1 u.params.regMap (recipeWrite u.params (clampPower d) l).1
            (recipeWrite u.params (clampPower d) l).2) .err))) := Iff.rfl

@[simp] theorem fails_pulseLine {goto : PulseLine → State → State} {ok : State → State} {fail : Err → State → State}
    {l : PulseLine} : (pulseLine goto ok fail l).Fails P s := by cases l <;> trivial

@[simp] theorem fails_syncLine_y1 {r : RegMap} {sentinel : Byte} {goto : SyncLine → State → State} {ok : State → State}
    {fail : Err → State → State} {h : LoopHead} :
    (syncLine r sentinel goto ok fail (.y1 h)).Fails P s ↔
      P (frameR1 r r.aSync) (fail (.busError (addrByte r r.aSync .read))
        (h.before State.startSync (s.transact (frameR1 r r.aSync) .err))) := Iff.rfl

@[simp] theorem fails_syncLine_y2 {r : RegMap} {sentinel : Byte} {goto : SyncLine → State → State} {ok : State → State}
    {fail : Err → State → State} :
    (syncLine r sentinel goto ok fail .y2).Fails P s ↔
      P (frameW1 r r.aSync sentinel) (fail (.busError (addrByte r r.aSync .write))
        (s.transact (frameW1 r r.aSync sentinel) .err)) := Iff.rfl

@[simp] theorem fails_pollLine {r : RegMap} {f : Flag} {h : LoopHead} {again ok : State → State}
    {fail : Err → State → State} :
    (pollLine r f h again ok fail).Fails P s ↔
      P (frameR1 r (flagAddr r f)) (fail (.busError (addrByte r (flagAddr r f) .read))
        (h.before State.startPoll (s.transact (frameR1 r (flagAddr r f)) .err))) := Iff.rfl

end

/-- The step of a failed transaction. -/
theorem step_failed {P : List Byte → State → Prop} {s : State} {p : Pos} {tx : List Byte} {rest : List Turn}
    (hs : s.seq = .running p) (hout : s.outstanding = some tx) (henv : s.env = .board .err :: rest)
    (h : (lineAt s p).Fails P (s.withEnv rest)) : ∃ t, step s = .next t ∧ P tx t := by
  obtain ⟨q, ok, err, hq, hline⟩ := lineAt_of_outstanding hout
  obtain rfl : p = q := by rw [hs] at hq; exact Seq.running.inj hq
  refine ⟨_, step_running_line hs henv rfl, ?_⟩
  rw [hline] at h ⊢
  exact h

/-- The operation has ended with `BusError` of the failed frame `tx`, and nothing but its own pokes' registers changed
(R120, R262). -/
def EndedByBusError (s : State) (p : Pos) (tx : List Byte) (t : State) : Prop :=
  t.seq = .idle ∧ t.env = s.env ∧ t.busRx = none ∧
    t.trace = s.trace ++ [.transfer tx none, .response [0x01, tx.headD 0]] ∧ t.setupDone = s.setupDone ∧ t.errSlot = none ∧
    (p.isPoke = false → t.txPower = s.txPower ∧ t.modeShadow = s.modeShadow)

end Sys2Proof.Machine
end

section
/-! PROOFS of the family `other`: what a failed transaction does (R120, R122, R228), and what block reset leaves (R290, R291). -/

namespace Sys2Proof.Machine

/-! ### `BusError` (R120, R262) -/

@[simp] theorem storeFirst_errSlot (d : Int) (l : RecipeLine) (s : State) : (storeFirst d l s).errSlot = s.errSlot := by
  unfold storeFirst
  split <;> rfl

@[simp] theorem storeFirst_busRx (d : Int) (l : RecipeLine) (s : State) : (storeFirst d l s).busRx = s.busRx := by
  unfold storeFirst
  split <;> rfl

@[simp] theorem storeFirst_env (d : Int) (l : RecipeLine) (s : State) : (storeFirst d l s).env = s.env := by
  unfold storeFirst
  split <;> rfl

@[simp] theorem response_busError (a : Byte) : (Err.busError a).response = [0x01, a] := rfl

/-- Away from the pokes a failed transaction ends the operation (R120). -/
theorem fails_noPoke {s : State} {p : Pos} (hslot : s.errSlot = none) (hp : p.isPoke = false) :
    (lineAt s p).Fails (EndedByBusError s p) s := by
  cases p with
  | rd | wr | brd | bwr => simp [lineAt, lineRd, lineWr, lineBrd, lineBwr, EndedByBusError, hslot]
  | ed a clr set l => cases l <;> simp [lineAt, lineEd, editLine, EndedByBusError, hslot]
  | rstp l => simp [lineAt, lineRstp]
  | sync sentinel l =>
    cases l with
    | y1 h => cases h <;> simp [lineAt, lineSync, EndedByBusError, hslot]
    | y2 => simp [lineAt, lineSync, EndedByBusError, hslot]
  | setup cfg l =>
    cases l with
    | s1 l => simp [lineAt, lineSetup]
    | s2 l | s3 l =>
      cases l with
      | y1 h => cases h <;> simp [lineAt, lineSetup, EndedByBusError, hslot]
      | y2 => simp [lineAt, lineSetup, EndedByBusError, hslot]
    | s4 => simp [lineAt, lineSetup, EndedByBusError, hslot]
    | s5 l => cases hp
  | waitf f h => cases h <;> simp [lineAt, lineWaitf, EndedByBusError, hslot]
  | send dst payload l =>
    cases l with
    | t1w h | t6w h | t7w h => cases h <;> simp [lineAt, lineSend, EndedByBusError, hslot]
    | t2 | t4 | t5 => simp [lineAt, lineSend, EndedByBusError, hslot]
    | t1 | t3 | t6 | t7 | t7p => cases hp
  | rxs l =>
    cases l with
    | a0 | w2 | l7 => trivial
    | a1 | a2 | l3 | l4 | l6 => simp [lineAt, lineRxs, EndedByBusError, hslot]
    | a1r | a3 | a4 | a5 => cases hp
  | pwr | mode => cases hp

/-- Under `strict` a failed poke ends the operation (R122). -/
theorem fails_strict {s : State} {p : Pos} (hslot : s.errSlot = none) (hp : p.isPoke = true)
    (hstrict : s.params.pokePolicy = .strict) : (lineAt s p).Fails (EndedByBusError s p) s := by
  cases p with
  | pwr d l => simp [lineAt, linePwr, tryErr, hstrict, EndedByBusError, Pos.isPoke, hslot]
  | mode m l => cases l <;> simp [lineAt, lineMode, tryErr, hstrict, EndedByBusError, Pos.isPoke, hslot]
  | setup cfg l =>
    cases l with
    | s5 l => simp [lineAt, lineSetup, tryErr, hstrict, EndedByBusError, Pos.isPoke, hslot]
    | s1 | s2 | s3 | s4 => cases hp
  | send dst payload l =>
    cases l with
    | t1 l | t6 l | t7 l => cases l <;> simp [lineAt, lineSend, tryErr, hstrict, EndedByBusError, Pos.isPoke, hslot]
    | t3 l | t7p l => simp [lineAt, lineSend, tryErr, hstrict, EndedByBusError, Pos.isPoke, hslot]
    | t1w | t2 | t4 | t5 | t6w | t7w => cases hp
  | rxs l =>
    cases l with
    | a1r l | a3 l => cases l <;> simp [lineAt, lineRxs, tryErr, hstrict, EndedByBusError, Pos.isPoke, hslot]
    | a4 | a5 => simp [lineAt, lineRxs, tryErr, hstrict, EndedByBusError, Pos.isPoke, hslot]
    | a0 | a1 | a2 | w2 | l3 | l4 | l6 | l7 => cases hp
  | rd | wr | ed | brd | bwr | rstp | sync | waitf => cases hp

/-- Settles O48: with the error slot empty the first error is the response, at a poke as elsewhere. -/
theorem busErrorEndsOperation : Obligations.BusErrorEndsOperation := by
  intro s p tx rest hinv hs hout hpolicy henv
  have hslot : (s.withEnv rest).errSlot = none := hinv.slotEmpty
  have hfails : (lineAt s p).Fails (EndedByBusError (s.withEnv rest) p) (s.withEnv rest) := by
    rw [← lineAt_withEnv s rest]
    cases hp : p.isPoke with
    | false => exact fails_noPoke hslot hp
    | true => exact fails_strict hslot hp (hpolicy.resolve_right (by simp [hp]))
  obtain ⟨t, hstep, hidle, henv', hrx, htrace, hdone, hslot', hregs⟩ := step_failed hs hout henv hfails
  exact ⟨t, hstep, hidle, henv', hrx, htrace, hdone, hslot', hregs⟩

/-- The failed poke is on record and discarded: the line after it is next, or its operation has ended with `Ok` (R122). -/
def Discarded (s : State) (p : Pos) (tx : List Byte) (t : State) : Prop :=
  t.env = s.env ∧
    match p.afterPoke with
    | some q => t.seq = .running q ∧ t.trace = s.trace ++ [.transfer tx none]
    | none => t.seq = .idle ∧ t.trace = s.trace ++ [.transfer tx none, .response [0x00, 0x00]]

theorem fails_bestEffort {s : State} {p : Pos} (hp : p.isPoke = true) (hbest : s.params.pokePolicy = .bestEffort) :
    (lineAt s p).Fails (Discarded s p) s := by
  cases p with
  | pwr d l =>
    cases l <;> simp [lineAt, linePwr, RecipeLine.advance, RecipeLine.next, tryErr, hbest, Discarded, Pos.afterPoke, okResponse]
  | mode m l => cases l <;> simp [lineAt, lineMode, tryErr, hbest, Discarded, Pos.afterPoke, okResponse]
  | setup cfg l =>
    cases l with
    | s5 l =>
      cases l <;>
        simp [lineAt, lineSetup, State.finishSetup, RecipeLine.advance, RecipeLine.next, tryErr, hbest, Discarded, Pos.afterPoke, okResponse]
    | s1 | s2 | s3 | s4 => cases hp
  | send dst payload l =>
    cases l with
    | t1 l | t6 l | t7 l => cases l <;> simp [lineAt, lineSend, tryErr, hbest, Discarded, Pos.afterPoke]
    | t3 l | t7p l =>
      cases l <;> simp [lineAt, lineSend, RecipeLine.advance, RecipeLine.next, tryErr, hbest, Discarded, Pos.afterPoke, okResponse]
    | t1w | t2 | t4 | t5 | t6w | t7w => cases hp
  | rxs l =>
    cases l with
    | a1r l | a3 l => cases l <;> simp [lineAt, lineRxs, tryErr, hbest, Discarded, Pos.afterPoke]
    | a4 | a5 => simp [lineAt, lineRxs, tryErr, hbest, Discarded, Pos.afterPoke]
    | a0 | a1 | a2 | w2 | l3 | l4 | l6 | l7 => cases hp
  | rd | wr | ed | brd | bwr | rstp | sync | waitf => cases hp

/-- Settles O49: at every poke the failure leads to the line after it. -/
theorem bestEffortDiscards : Obligations.BestEffortDiscards := by
  intro s p tx rest hs hout hbest hp henv
  have hfails : (lineAt s p).Fails (Discarded (s.withEnv rest) p) (s.withEnv rest) := by
    rw [← lineAt_withEnv s rest]
    exact fails_bestEffort hp hbest
  obtain ⟨t, hstep, henv', hnext⟩ := step_failed hs hout henv hfails
  exact ⟨t, hstep, henv', hnext⟩

/-- Settles O35: the lines of `RXS` that are no pokes raise the error in the step of the failure. -/
theorem rxsErrorEndsOnce : Obligations.RxsErrorEndsOnce := by
  intro s l tx rest hs hp hout henv
  have hfails : (lineAt s (.rxs l)).Fails (fun tx t => t = ((s.withEnv rest).transact tx .err).raiseRxs (.busError (tx.headD 0)))
      (s.withEnv rest) := by
    cases l with
    | a0 | w2 | l7 => trivial
    | a1 | a2 | l3 | l4 | l6 => rfl
    | a1r | a3 | a4 | a5 => cases hp
  obtain ⟨t, hstep, rfl⟩ := step_failed hs hout henv hfails
  rw [hstep]
  congr 1
  apply State.ext <;> simp

/-! ### Block reset (R290, R291) -/

/-- The note block reset makes of a line left unanswered is that of its `Transfer` or of its `SetReset`. -/
theorem forgotten_eq_notes (s : State) :
    s.forgotten = s.outstanding.toList.map .transferForgotten ++ s.settingReset.toList.map .setResetForgotten := by
  cases hs : s.seq with
  | idle => simp [State.forgotten, State.outstanding, State.settingReset, hs]
  | running p =>
    simp only [State.forgotten, State.outstanding, State.settingReset, hs]
    cases p with
    | rd | wr | brd | bwr | pwr => rfl
    | ed _ _ _ l | rstp l | mode _ l => cases l <;> rfl
    | waitf _ h => rfl
    | sync _ l => cases l <;> rfl
    | setup _ l =>
      cases l with
      | s1 l | s2 l | s3 l => cases l <;> rfl
      | s4 | s5 => rfl
    | send _ _ l =>
      cases l with
      | t1 l | t6 l | t7 l => cases l <;> rfl
      | _ => rfl
    | rxs l =>
      cases l with
      | a1r l | a3 l => cases l <;> rfl
      | _ => rfl

/-- Settles O51: the values of R47, and on record the note of the transaction left unanswered. -/
theorem blockResetStops : Obligations.BlockResetStops := by
  intro s rest henv
  have hstep : step s = .next (s.withEnv rest).blockReset := by simp [step, turn, henv]
  refine ⟨_, hstep, rfl, rfl, rfl, rfl, rfl, rfl, rfl, rfl, rfl, ?_⟩
  calc s.trace ++ (s.withEnv rest).forgotten
      = s.trace ++ (s.outstanding.toList.map .transferForgotten ++ s.settingReset.toList.map .setResetForgotten) := by
        rw [forgotten_withEnv, forgotten_eq_notes]
    _ = _ := (List.append_assoc ..).symm

end Sys2Proof.Machine
end

section
/-! PROOFS of the family `other`: operations of one transaction (R82 to R86, R116), and the single steps of `RXS` at its wait, drain and
emit (R222 to R229, R254). -/

namespace Sys2Proof.Machine

/-! ### One transaction: `BRD`, the write frames, the FIFO frame -/

/-- Settles O4: `X1` of `BRD` is a burst read line, and both its answers end the operation. -/
theorem brdReadsInOneTransfer : Obligations.BrdReadsInOneTransfer := by
  intro s a n rest hs
  refine ⟨decodeCmd_byte .brd [a, n], fun echo d hlen henv => ?answered, fun henv => ?failed⟩
  case answered => exact issue_one_line hs henv fun _ => complete_burstReadLine_ok _ _ _ _ _ _ _ _ hlen
  case failed => exact issue_one_line hs henv fun _ => complete_burstReadLine_err ..

/-- A write frame taken up by an answer that fits it is one transaction (R85). -/
theorem exec_busWN_answered {a : Byte} {bytes : List Byte} {s : State} {ans : Answer} {rest : List Turn}
    (henv : s.env = .board ans :: rest) (hfits : ans.fits (frameWN s.params.regMap a bytes) = true) :
    exec (.busWN a bytes) s = .next ((s.withEnv rest).transact (frameWN s.params.regMap a bytes) ans) :=
  transferNow_answered henv hfits

/-- Settles O9: BUS-W1 has the frame of BUS-WN with one byte, and the answer to a frame completes its transaction. -/
theorem busWriteFrames : Obligations.BusWriteFrames := by
  intro s a v bytes rest
  refine ⟨rfl, fun rx hlen henv => ?answered, fun henv => ?failed⟩
  case answered => exact exec_busWN_answered henv (by simp [hlen])
  case failed => exact exec_busWN_answered henv rfl

/-- Settles O10: the FIFO frame is pushed by the transaction of a write frame at `A_FIFO`. -/
theorem fifoFramePushed : Obligations.FifoFramePushed := by
  intro s len dst src ctl payload rest rx hlen henv
  exact transferNow_answered henv (by simp [hlen, fifoBytes])

/-! ### `W2` (R222) -/

/-- `W2` with the latch clear is blocked (R46). -/
theorem step_w2_clear {s : State} {rest : List Turn} (hs : s.seq = .running (.rxs .w2)) (hclear : s.evtPending = false)
    (henv : s.env = .tick :: rest) : step s = .next (s.withEnv rest) := by
  rw [step_running_line hs henv rfl]
  simp [lineAt, lineRxs, Line.complete, hclear]

/-- Settles O32: blocked with the latch clear, and one step that takes the event with the latch set. -/
theorem waitConsumesLatch : Obligations.WaitConsumesLatch := by
  intro s rest hs henv
  exact ⟨fun hclear => step_w2_clear hs hclear henv, fun hpending => step_w2_pending hs hpending henv⟩

/-! ### The drain (R224 to R226, R254) -/

/-- `L4` answered: the header is latched and its length byte tested in the same step (R224, R225). -/
theorem step_l4_answered {s : State} {e total dst src ctl : Byte} {rest : List Turn} (hs : s.seq = .running (.rxs .l4))
    (henv : s.env = .board (.ok [e, total, dst, src, ctl]) :: rest) :
    step s = .next ((((s.withEnv rest).transact (frameRN s.params.regMap s.params.regMap.aFifo 4)
      (.ok [e, total, dst, src, ctl])).latchHeader [total, dst, src, ctl]).checkHeader) := by
  rw [step_running_line hs henv rfl, lineAt, lineRxs, complete_burstReadLine_ok _ _ 4 e [total, dst, src, ctl] _ _ _ rfl]

/-- A legal length byte leads to `L6` with the payload length (R225). -/
theorem checkHeader_legal {s : State} (h : 3 ≤ s.hTotal.toNat) : s.checkHeader = s.latchPlen.goto (.rxs .l6) :=
  if_neg (Nat.not_lt.mpr h)

/-- A length byte below 3 ends `RXS` (R254). -/
theorem checkHeader_short {s : State} (h : s.hTotal.toNat < 3) : s.checkHeader = s.raiseRxs (.protocolError s.hTotal) :=
  if_pos h

/-- Settles O34: the length test fails in the step that drained the header. -/
theorem rxsUnderLengthHeader : Obligations.RxsUnderLengthHeader := by
  intro s e total dst src ctl rest hs hslot hshort henv
  refine ⟨_, step_l4_answered hs henv, ?_⟩
  rw [checkHeader_short (by simpa using hshort)]
  apply State.ext <;> simp [hslot, Err.response, Err.code, Err.info]

/-- `L6` answered: the payload is latched, and `L7` is next (R226). -/
theorem step_l6_answered {s : State} {e : Byte} {d : List Byte} {rest : List Turn} (hs : s.seq = .running (.rxs .l6))
    (hlen : d.length = s.plen.toNat) (henv : s.env = .board (.ok (e :: d)) :: rest) :
    step s = .next ((((s.withEnv rest).transact (frameRN s.params.regMap s.params.regMap.aFifo s.plen.toNat)
      (.ok (e :: d))).latchPayload d).goto (.rxs .l7)) := by
  rw [step_running_line hs henv rfl, lineAt, lineRxs, complete_burstReadLine_ok (h := hlen)]

/-! ### `L7` (R227, R229) -/

/-- The host's acceptance: the packet leaves, and `A1` is next (R227, R229). -/
theorem step_l7_accepted {s : State} {rest : List Turn} (hs : s.seq = .running (.rxs .l7)) (henv : s.env = .accept :: rest) :
    step s = .next ((((s.withEnv rest).latchPacket s.packet).emit (.packet s.packet)).goto (.rxs .a1)) :=
  step_running_line hs henv rfl

/-- Any other of the sequencer's turns passes (log 17). -/
theorem step_l7_other {s : State} {t : Turn} {rest : List Turn} (hs : s.seq = .running (.rxs .l7)) (henv : s.env = t :: rest)
    (ht : t.isSequencer = true) (hother : t ≠ .accept) : step s = .next (s.withEnv rest) := by
  rw [step_running_line hs henv ht]
  cases t with
  | accept => exact absurd rfl hother
  | _ => rfl

/-- Settles O37: the acceptance delivers the packet and leads to `A1`; the other turns pass. -/
theorem offerWaitsForHost : Obligations.OfferWaitsForHost := by
  intro s t rest hs henv ht
  refine ⟨by simp [State.offered, hs, State.packet], ?_⟩
  split
  case isTrue haccept => exact step_l7_accepted hs (haccept ▸ henv)
  case isFalse hother => exact step_l7_other hs henv ht hother

/-! ### From `L3` to `A1` -/

/-- Settles O33: the steps of `L3`, `L4`, `L6` and `L7`, one after the other. -/
theorem rxsDrainsAndEmits : Obligations.RxsDrainsAndEmits := by
  intro s x e total dst src ctl e' d rest r hs htotal hlen henv
  have hplen : ((total.toNat : Int) - 3).toNat = total.toNat - 3 := by omega
  have hl3 := step_l3_answered hs henv
  generalize hu : State.goto _ (.rxs .l4) = u at hl3
  have hl4 := step_l4_answered (s := u) (e := e) (total := total) (dst := dst) (src := src) (ctl := ctl)
    (rest := .board (.ok (e' :: d)) :: .accept :: rest) (by simp [← hu]) (by simp [← hu])
  rw [checkHeader_legal (by simpa using htotal)] at hl4
  generalize hv : State.goto _ (.rxs .l6) = v at hl4
  have hl6 := step_l6_answered (s := v) (e := e') (d := d) (rest := .accept :: rest) (by simp [← hv])
    (by simp [← hv, payloadLength, Config.headerLen, hplen, hlen]) (by simp [← hv])
  generalize hw : State.goto _ (.rxs .l7) = w at hl6
  have hl7 := step_l7_accepted (s := w) (rest := rest) (by simp [← hw]) (by simp [← hw])
  refine ⟨u, hl3, v, hl4, w, hl6, _, hl7, ?_⟩
  apply State.ext <;>
    simp [← hw, ← hv, ← hu, r, State.packet, hplen, rssiOf, payloadLength, Config.headerLen, readOf, frameRN, List.replicate]

end Sys2Proof.Machine
end

section
/-! PROOFS of the family `other`: the run of an operation, line after line, on turns that are written out: what it leaves and what it
carries (R13, R45). The loops and the recipe that several operations share are run once, for whatever operation they stand in. -/

namespace Sys2Proof.Machine

/-! ### What a run carries -/

/-- The last answer of the Board after `e`, given the last one before it (R57). -/
def Event.answerAfter (rx : Option (List Byte)) : Event → Option (List Byte)
  | .transfer _ rx' => rx'
  | .setReset _ _ | .hold _ | .response _ | .packet _ | .transferForgotten _ | .setResetForgotten _ => rx

section
variable (rx : Option (List Byte)) (r : RegMap) (a v : Byte) (x : Byte × Byte)

@[simp] theorem answerAfter_readOf : Event.answerAfter rx (readOf r a x) = some [x.1, x.2] := rfl
@[simp] theorem answerAfter_writeOf : Event.answerAfter rx (writeOf r a v x) = some [x.1, x.2] := rfl
@[simp] theorem answerAfter_readFailed : Event.answerAfter rx (readFailed r a) = none := rfl
@[simp] theorem answerAfter_writeFailed : Event.answerAfter rx (writeFailed r a v) = none := rfl

/-- The last answer of reads is that of the last of them. -/
@[simp] theorem answerAfter_reads (zs : List (Byte × Byte)) :
    (zs.map (readOf r a)).foldl Event.answerAfter rx = ((zs.getLast?).map fun z => some [z.1, z.2]).getD rx := by
  cases zs using List.reverseRecOn <;> simp

end

/-- The ports carried `es`; no register of the RAC is written. -/
def State.carried (es : List Event) (s : State) : State :=
  { s with busRx := es.foldl Event.answerAfter s.busRx, trace := s.trace ++ es }

section
variable (es : List Event) (s : State)

@[simp] theorem State.carried_params : (s.carried es).params = s.params := rfl
@[simp] theorem State.carried_setupDone : (s.carried es).setupDone = s.setupDone := rfl
@[simp] theorem State.carried_txPower : (s.carried es).txPower = s.txPower := rfl
@[simp] theorem State.carried_attempt : (s.carried es).attempt = s.attempt := rfl
@[simp] theorem State.carried_polls : (s.carried es).polls = s.polls := rfl
@[simp] theorem State.carried_txDst : (s.carried es).txDst = s.txDst := rfl
@[simp] theorem State.carried_txPayload : (s.carried es).txPayload = s.txPayload := rfl
@[simp] theorem State.carried_cfg : (s.carried es).cfg = s.cfg := rfl
@[simp] theorem State.carried_cfgI : (s.carried es).cfgI = s.cfgI := rfl

end

theorem carried_carried (es es' : List Event) (s : State) : (s.carried es).carried es' = s.carried (es ++ es') := by
  simp [State.carried]

/-! ### Runs -/

/-- The sequencer stands at a line, and the turn completes it, whatever turns follow. -/
def Takes (s : State) (tu : Turn) (t : State) : Prop :=
  s.busy = true ∧ tu.isSequencer = true ∧ ∀ env, takeLine tu (s.withEnv env) = t.withEnv env

/-- The turns complete one line each, and lead from `s` to `t`, whatever turns follow. -/
inductive Runs : State → List Turn → State → Prop
  | nil (s : State) : Runs s [] s
  | cons {s u t : State} {tu : Turn} {ts : List Turn} : Takes s tu u → Runs u ts t → Runs s (tu :: ts) t

theorem Takes.runs {s t : State} {tu : Turn} (h : Takes s tu t) : Runs s [tu] t := .cons h (.nil t)

theorem Runs.trans {s u t : State} {ts ts' : List Turn} (h : Runs s ts u) (h' : Runs u ts' t) : Runs s (ts ++ ts') t := by
  induction h with
  | nil => exact h'
  | cons hline _ ih => exact .cons hline (ih h')

theorem Runs.to {s t t' : State} {ts : List Turn} (h : Runs s ts t) (ht : t = t') : Runs s ts t' := ht ▸ h

/-- The run of an operation goes through the states of `Runs`. -/
theorem Runs.drive_append {s t : State} {ts : List Turn} (h : Runs s ts t) (rest : List Turn) :
    drive (ts ++ rest) (s.withEnv (ts ++ rest)) = drive rest (t.withEnv rest) := by
  induction h with
  | nil => rfl
  | @cons s u t tu ts hline _ ih =>
    obtain ⟨hbusy, hseq, hnext⟩ := hline
    have hbusy' : (s.withEnv (tu :: (ts ++ rest))).busy = true := hbusy
    have hnext' := hnext (ts ++ rest)
    rw [← ih, ← hnext', List.cons_append, drive, hseq, hbusy']
    rfl

/-- Each line of a run is one step (R13). -/
theorem Runs.stepsTo {s t : State} {ts : List Turn} (h : Runs s ts t) (rest : List Turn) :
    stepsTo ts.length (s.withEnv (ts ++ rest)) (t.withEnv rest) := by
  induction h with
  | nil => rfl
  | cons hline _ ih =>
    obtain ⟨-, hseq, hnext⟩ := hline
    exact ⟨_, (step_line rfl hseq).trans (congrArg _ (hnext _)), ih⟩

theorem drive_othersNext {rest : List Turn} (h : othersNext rest = true) (s : State) : drive rest s = s := by
  cases rest with
  | nil => rfl
  | cons tu rest => exact drive_other rest s (by simpa [othersNext] using h)

/-- An accepted command runs through the states of `Runs`. -/
theorem issue_runs {gated tooLong : Bool} {start : State → State} {s t : State} {ts rest : List Turn} (hs : s.seq = .idle)
    (henv : s.env = ts ++ rest) (hgated : gated = true → s.setupDone = true) (hlong : tooLong = false)
    (hstart : start s = (start s).withEnv s.env) (hruns : Runs (start s) ts t) :
    issue gated tooLong start s = .next (drive rest (t.withEnv rest)) := by
  rw [issue_accepted hs hgated hlong, hstart, henv, hruns.drive_append rest]

/-- An accepted command that its turns bring back to `Idle` leaves the rest of them. -/
theorem issue_ends {gated tooLong : Bool} {start : State → State} {s t : State} {ts rest : List Turn} (hs : s.seq = .idle)
    (henv : s.env = ts ++ rest) (hgated : gated = true → s.setupDone = true) (hlong : tooLong = false)
    (hstart : start s = (start s).withEnv s.env) (hruns : Runs (start s) ts t) (hidle : t.seq = .idle) :
    issue gated tooLong start s = .next (t.withEnv rest) := by
  rw [issue_runs hs henv hgated hlong hstart hruns, drive_idle rest (s := t.withEnv rest) hidle]

/-! ### One line of a run -/

/-- What comes after a line sets the position itself and does not look at the turns to come. -/
def Continues (f : State → State) : Prop := ∀ u p env, f ((u.goto p).withEnv env) = (f u).withEnv env

theorem continues_goto (q : Pos) : Continues fun t => t.goto q := fun _ _ _ => rfl

theorem continues_finish (value : List Byte) : Continues fun t => t.finish value := fun _ _ _ => rfl

theorem continues_finishSetup : Continues State.finishSetup := fun _ _ _ => rfl

theorem continues_raise (e : Err) : Continues (State.raise e) := fun _ _ _ => rfl

theorem continues_raiseSetup (e : Err) : Continues (State.raiseSetup e) := fun _ _ _ => rfl

/-- No line depends on the position. -/
@[simp] theorem lineAt_goto (s : State) (p q : Pos) : lineAt (s.goto q) p = lineAt s p := by
  cases p <;> rfl

/-- One line of a run: what completing it does, and what comes after it. -/
theorem takes_line {s u : State} {p : Pos} {tu : Turn} {f : State → State} (htu : tu.isSequencer = true) (hf : Continues f)
    (hline : ∀ env, (lineAt s p).complete tu ((s.goto p).withEnv env) = f ((u.goto p).withEnv env)) :
    Takes (s.goto p) tu (f u) := by
  refine ⟨rfl, htu, fun env => ?_⟩
  rw [takeLine_running (p := p) rfl, lineAt_withEnv, lineAt_goto, hline, hf]

section
variable {s : State} {p : Pos} {a v : Byte} {ok : State → State} {fail : Err → State → State}

/-- A write answered. -/
theorem takes_write (y : Byte × Byte) (hline : lineAt s p = writeLine s.params.regMap a v ok fail) (hok : Continues ok) :
    Takes (s.goto p) (answer y) (ok (s.carried [writeOf s.params.regMap a v y])) :=
  takes_line rfl hok fun _ => by rw [hline, answer, complete_writeLine_ok]; rfl

/-- A read answered. -/
theorem takes_read {okv : Byte → State → State} (x : Byte × Byte)
    (hline : lineAt s p = readLine s.params.regMap a okv fail) (hok : Continues (okv x.2)) :
    Takes (s.goto p) (answer x) (okv x.2 (s.carried [readOf s.params.regMap a x])) :=
  takes_line rfl hok fun _ => by rw [hline, answer, complete_readLine_ok]; rfl

end

theorem answerOrErr_some (x : Byte × Byte) : answerOrErr (some x) = answer x := rfl

theorem answerOrErr_comp_some : answerOrErr ∘ some = answer := rfl

/-! ### The recipe (R133) -/

/-- The lines of the recipe from `l` on. -/
def RecipeLine.onward : RecipeLine → List RecipeLine
  | .h1 => [.h1, .h2, .h3, .h4]
  | .h2 => [.h2, .h3, .h4]
  | .h3 => [.h3, .h4]
  | .h4 => [.h4]
  | .n1 => [.n1, .n2, .n3, .n4]
  | .n2 => [.n2, .n3, .n4]
  | .n3 => [.n3, .n4]
  | .n4 => [.n4]

/-- The writes R133 lists for `d` are those of the lines from the first of its tier on. -/
theorem recipeWrites_eq_map (p : Params) (d : Int) :
    recipeWrites p d = (recipeFirst p d).onward.map (recipeWrite p d) := by
  rw [recipeWrites, recipeFirst]
  cases htier : tier (powerSetting p d) with
  | highPower => simp [RecipeLine.onward, recipeWrite, paLevel]
  | secondStage =>
    have hstage := ((tier_eq_secondStage_iff _).mp htier).1
    simp [RecipeLine.onward, recipeWrite, paLevel, hstage]
  | base =>
    have hstage := ((tier_eq_base_iff _).mp htier).1
    simp [RecipeLine.onward, recipeWrite, paLevel, hstage]

theorem onward_head (l : RecipeLine) : l.onward[0]? = some l := by
  cases l <;> rfl

theorem onward_of_next {l l' : RecipeLine} (h : l.next = some l') : l.onward = l :: l'.onward := by
  cases l <;> cases h <;> rfl

theorem onward_of_last {l : RecipeLine} (h : l.next = none) : l.onward = [l] := by
  cases l <;> simp [RecipeLine.next, RecipeLine.onward] at h ⊢

theorem length_onward_recipeFirst (p : Params) (d : Int) : (recipeFirst p d).onward.length = 4 := by
  rw [recipeFirst]
  split <;> rfl

/-- After some lines of the recipe: the next one, or, after the last, the line after the recipe (R133). -/
def arriveAt (P : RecipeLine → Pos) (ok : State → State) : Option RecipeLine → State → State
  | some l, s => s.goto (P l)
  | none, s => ok s

theorem advance_eq_arriveAt (P : RecipeLine → Pos) (ok : State → State) (l : RecipeLine) (s : State) :
    l.advance (fun l' t => t.goto (P l')) ok s = arriveAt P ok l.next s := by
  cases l <;> rfl

theorem continues_arriveAt (P : RecipeLine → Pos) {ok : State → State} (hok : Continues ok) (l : Option RecipeLine) :
    Continues (arriveAt P ok l) := by
  cases l with
  | none => exact hok
  | some l => exact continues_goto (P l)

/-- The write of one line of the recipe, with its answer. -/
def recipeEvent (p : Params) (d : Int) (l : RecipeLine) (y : Option (Byte × Byte)) : Event :=
  .transfer (frameW1 p.regMap (recipeWrite p d l).1 (recipeWrite p d l).2) (y.map fun y => [y.1, y.2])

/-- What the lines from `l` on carry while `ys` answer them. -/
def recipeEvents (p : Params) (d : Int) (l : RecipeLine) (ys : List (Option (Byte × Byte))) : List Event :=
  writesOf p.regMap (l.onward.map (recipeWrite p d)) ys

section
variable {s : State} {P : RecipeLine → Pos} {d : Int} {ok : State → State} {fail : Err → State → State} {l : RecipeLine}

/-- A line of the recipe answered, or failed and discarded (R122). -/
theorem takes_recipe {y : Option (Byte × Byte)}
    (hline : lineAt s (P l) = recipeLine s.params d (fun l' t => t.goto (P l')) ok fail l) (hok : Continues ok)
    (hy : y = none → s.params.pokePolicy = .bestEffort) :
    Takes (s.goto (P l)) (answerOrErr y) (arriveAt P ok l.next (s.carried [recipeEvent s.params d l y])) := by
  cases y with
  | some y =>
    refine takes_line rfl (continues_arriveAt P hok _) fun _ => ?_
    rw [hline, answerOrErr, answer, complete_recipeLine_ok, advance_eq_arriveAt]
    rfl
  | none =>
    refine takes_line rfl (continues_arriveAt P hok _) fun _ => ?_
    rw [hline, answerOrErr, complete_recipeLine_err, tryErr_bestEffort _ _ _ (by exact hy rfl), advance_eq_arriveAt]
    rfl

/-- A line of `PWR` answered, or failed and discarded (R122); the first stores the power (R131). -/
theorem takes_power {y : Option (Byte × Byte)}
    (hline : lineAt s (P l) = powerLine s d (fun l' t => t.goto (P l')) ok fail l) (hok : Continues ok)
    (hy : y = none → s.params.pokePolicy = .bestEffort) :
    Takes (s.goto (P l)) (answerOrErr y)
      (arriveAt P ok l.next ((storeFirst d l s).carried [recipeEvent s.params (clampPower d) l y])) := by
  cases y with
  | some y =>
    refine takes_line rfl (continues_arriveAt P hok _) fun _ => ?_
    rw [hline, answerOrErr, answer, complete_powerLine_ok, advance_eq_arriveAt]
    cases l <;> rfl
  | none =>
    refine takes_line rfl (continues_arriveAt P hok _) fun _ => ?_
    rw [hline, answerOrErr, complete_powerLine_err, tryErr_bestEffort _ _ _ (by simpa using hy rfl), advance_eq_arriveAt]
    cases l <;> rfl

/-- The recipe from `l` on, as far as it is answered, where each of its lines is taken. -/
theorem runs_recipe_from {p : Params} (ys : List (Option (Byte × Byte)))
    (hstep : ∀ es l, ∀ y ∈ ys, Takes ((s.carried es).goto (P l)) (answerOrErr y)
      (arriveAt P ok l.next (s.carried (es ++ [recipeEvent p d l y])))) (es : List Event) (hlen : ys.length ≤ l.onward.length) :
    Runs ((s.carried es).goto (P l)) (ys.map answerOrErr)
      (arriveAt P ok l.onward[ys.length]? (s.carried (es ++ recipeEvents p d l ys))) := by
  induction ys generalizing l es with
  | nil =>
    simpa [onward_head, recipeEvents, writesOf, arriveAt] using Runs.nil ((s.carried es).goto (P l))
  | cons y ys ih =>
    have hline := hstep es l y (List.mem_cons_self ..)
    cases hnext : l.next with
    | none =>
      have hys : ys = [] := by simpa [onward_of_last hnext] using hlen
      subst hys
      rw [hnext] at hline
      simpa [onward_of_last hnext, recipeEvents, writesOf, recipeEvent] using hline.runs
    | some l' =>
      rw [hnext] at hline
      have hrest := ih (fun es l y hy => hstep es l y (List.mem_cons_of_mem _ hy)) (es ++ [recipeEvent p d l y]) (l := l')
        (by simpa [onward_of_next hnext] using hlen)
      simpa [onward_of_next hnext, recipeEvents, writesOf, recipeEvent] using Runs.cons hline hrest

/-- The whole recipe for `d`, where each of its lines is taken. -/
theorem runs_recipe {p : Params} {ys : List (Option (Byte × Byte))}
    (hstep : ∀ es l, ∀ y ∈ ys, Takes ((s.carried es).goto (P l)) (answerOrErr y)
      (arriveAt P ok l.next (s.carried (es ++ [recipeEvent p d l y])))) (hlen : ys.length = 4) :
    Runs (s.goto (P (recipeFirst p d))) (ys.map answerOrErr) (ok (s.carried (writesOf p.regMap (recipeWrites p d) ys))) := by
  have hlength := length_onward_recipeFirst p d
  have hrun := runs_recipe_from ys hstep [] (l := recipeFirst p d) (by omega)
  rw [List.getElem?_eq_none (by omega)] at hrun
  simpa [recipeWrites_eq_map, recipeEvents, arriveAt, State.carried] using hrun

end

@[simp] theorem length_recipeWrites (p : Params) (d : Int) : (recipeWrites p d).length = 4 := by
  rw [recipeWrites]
  split <;> rfl

/-- The last answer of writes on record is that of the last of them. -/
theorem answerAfter_writesOf (r : RegMap) (ws : List (Byte × Byte)) (ys : List (Option (Byte × Byte)))
    (rx : Option (List Byte)) (hlen : ys.length ≤ ws.length) :
    (writesOf r ws ys).foldl Event.answerAfter rx = ys.foldl (fun _ y => y.map fun y => [y.1, y.2]) rx := by
  induction ys generalizing ws rx with
  | nil => simp [writesOf]
  | cons y ys ih =>
    obtain ⟨w, ws, rfl⟩ := List.exists_cons_of_length_pos (show 0 < ws.length by simp at hlen; omega)
    exact ih ws _ (Nat.le_of_succ_le_succ hlen)

/-! ### `PWR` (R130, R131) -/

@[simp] theorem recipeWrites_clampPower (p : Params) (d : Int) : recipeWrites p (clampPower d) = recipeWrites p d := by
  simp [recipeWrites]

/-- What is stored already is not changed by the first line of `PWR`. -/
theorem storeFirst_stored (d : Int) (l : RecipeLine) (s : State) (es : List Event) :
    storeFirst d l ((s.storePower (clampPower d)).carried es) = (s.storePower (clampPower d)).carried es := by
  cases l <;> rfl

section
variable {s : State} {P : RecipeLine → Pos} {d : Int} {ok : State → State} {fail : Err → State → State}

/-- `PWR` from its first line on, as far as its writes are answered, or failed and discarded: the power is stored with the first. -/
theorem runs_power (hline : ∀ u l, u.params = s.params → lineAt u (P l) = powerLine u d (fun l' t => t.goto (P l')) ok fail l)
    (hok : Continues ok) (y : Option (Byte × Byte)) (ys : List (Option (Byte × Byte)))
    (hans : ∀ y' ∈ y :: ys, y' = none → s.params.pokePolicy = .bestEffort) (hlen : ys.length < 4) :
    Runs (s.goto (P (recipeFirst s.params (clampPower d)))) ((y :: ys).map answerOrErr)
      (arriveAt P ok (recipeFirst s.params (clampPower d)).onward[ys.length + 1]? ((s.storePower (clampPower d)).carried
        (writesOf s.params.regMap (recipeWrites s.params (clampPower d)) (y :: ys)))) := by
  have hfirst : (recipeFirst s.params (clampPower d)).isFirst = true ∧
      ∃ l', (recipeFirst s.params (clampPower d)).next = some l' ∧ l'.onward.length = 3 := by
    rw [recipeFirst]; split <;> exact ⟨rfl, _, rfl, rfl⟩
  rw [recipeWrites_eq_map]
  generalize recipeFirst s.params (clampPower d) = l at hfirst ⊢
  obtain ⟨hstore, l', hnext, hlen'⟩ := hfirst
  have hhead := takes_power (l := l) (hline s l rfl) hok (hans y (List.mem_cons_self ..))
  rw [hnext, storeFirst, if_pos hstore] at hhead
  have hrest := runs_recipe_from (s := s.storePower (clampPower d)) (p := s.params) (d := clampPower d) (P := P) (ok := ok) ys
    (fun es l y' hy' => ?_) [recipeEvent s.params (clampPower d) l y] (l := l') (by omega)
  · simpa [onward_of_next hnext, recipeEvents, writesOf, recipeEvent] using Runs.cons hhead hrest
  · have hlater := takes_power (s := (s.storePower (clampPower d)).carried es) (l := l) (hline _ l rfl) hok
      (hans y' (List.mem_cons_of_mem _ hy'))
    rwa [storeFirst_stored, carried_carried] at hlater

/-- The whole of `PWR`. -/
theorem runs_power_whole
    (hline : ∀ u l, u.params = s.params → lineAt u (P l) = powerLine u d (fun l' t => t.goto (P l')) ok fail l)
    (hok : Continues ok) {ys : List (Option (Byte × Byte))} (hlen : ys.length = 4)
    (hans : ∀ y ∈ ys, y = none → s.params.pokePolicy = .bestEffort) :
    Runs (s.goto (P (recipeFirst s.params (clampPower d)))) (ys.map answerOrErr)
      (ok ((s.storePower (clampPower d)).carried (writesOf s.params.regMap (recipeWrites s.params (clampPower d)) ys))) := by
  obtain ⟨y, ys, rfl⟩ := List.exists_cons_of_length_pos (show 0 < ys.length by omega)
  have hlength := length_onward_recipeFirst s.params (clampPower d)
  have hlen' : ys.length + 1 = 4 := hlen
  have hrun := runs_power hline hok y ys hans (by omega)
  rwa [List.getElem?_eq_none (by omega)] at hrun

end

theorem exec_pwr (p : Byte) (s : State) : exec (.pwr p) s =
    issue false false (fun t => t.goto (.pwr p (recipeFirst t.params (clampPower p.toInt)))) s := rfl

/-- `PWR` with its four writes answered, or failed and discarded. -/
theorem exec_pwr_ends {s : State} {p : Byte} {ys : List (Option (Byte × Byte))} {rest : List Turn} (hs : s.seq = .idle)
    (hlen : ys.length = 4) (hans : ∀ y ∈ ys, y = none → s.params.pokePolicy = .bestEffort)
    (henv : s.env = ys.map answerOrErr ++ rest) :
    exec (.pwr p) s = .next ((((s.storePower (clampPower p.toInt)).carried
      (writesOf s.params.regMap (recipeWrites s.params (clampPower p.toInt)) ys)).finish []).withEnv rest) := by
  have hrun := runs_power_whole (s := s) (P := .pwr p) (fun _ _ _ => rfl) (continues_finish []) hlen hans
  rw [exec_pwr, issue_ends hs henv (by simp) rfl rfl hrun rfl]

/-- Settles O11: the recipe with four answers. -/
theorem pwrStoresAndApplies : Obligations.PwrStoresAndApplies := by
  intro s p x1 x2 x3 x4 rest hs henv
  rw [exec_pwr_ends (ys := [some x1, some x2, some x3, some x4]) (rest := rest) hs rfl (by simp) henv, ← clampPower_eq_max_min]
  congr 1
  apply State.ext <;> simp [State.carried, hs, okResponse, answerAfter_writesOf]

/-- Settles O13: the recipe with each of its writes answered, or failed and discarded. -/
theorem pwrBestEffort : Obligations.PwrBestEffort := by
  intro s p y1 y2 y3 y4 rest hs hbest henv
  rw [exec_pwr_ends (ys := [y1, y2, y3, y4]) (rest := rest) hs rfl (fun _ _ _ => hbest) henv, ← clampPower_eq_max_min]
  congr 1
  apply State.ext <;> simp [State.carried, hs, okResponse, answerAfter_writesOf]

/-- A line of `PWR` failed under `strict` ends it; the first stores the power all the same (R131, R122). -/
theorem takes_pwr_strict {s : State} {p : Byte} {l : RecipeLine} (hstrict : s.params.pokePolicy = .strict) :
    Takes (s.goto (.pwr p l)) (.board .err)
      (State.raise (.busError (addrByte s.params.regMap (recipeWrite s.params (clampPower p.toInt) l).1 .write))
        ((storeFirst p.toInt l s).carried [recipeEvent s.params (clampPower p.toInt) l none])) := by
  refine takes_line rfl (continues_raise _) fun _ => ?_
  rw [lineAt, linePwr, complete_powerLine_err, tryErr_strict _ _ _ (by simpa using hstrict)]
  cases l <;> rfl

/-- The writes up to the last that `ys` answers, and the one after it. -/
theorem writesOf_take_append (r : RegMap) (ws : List (Byte × Byte)) (ys : List (Option (Byte × Byte)))
    (y : Option (Byte × Byte)) (hlen : ys.length < ws.length) :
    writesOf r (ws.take (ys.length + 1)) (ys ++ [y]) = writesOf r ws ys ++
      [.transfer (frameW1 r (ws.getD ys.length (0, 0)).1 (ws.getD ys.length (0, 0)).2) (y.map fun y => [y.1, y.2])] := by
  induction ys generalizing ws with
  | nil =>
    obtain ⟨w, ws, rfl⟩ := List.exists_cons_of_length_pos hlen
    simp [writesOf]
  | cons y' ys ih =>
    obtain ⟨w, ws, rfl⟩ := List.exists_cons_of_length_pos (show 0 < ws.length by omega)
    simpa [writesOf] using ih ws (Nat.lt_of_succ_lt_succ hlen)

/-- `PWR` under `strict` up to the write that fails, that of `l`. -/
theorem runs_pwr_strict {s : State} {p : Byte} {l : RecipeLine} (hstrict : s.params.pokePolicy = .strict)
    (xs : List (Byte × Byte)) (hlen : xs.length < 4)
    (hl : (recipeFirst s.params (clampPower p.toInt)).onward[xs.length]? = some l) :
    Runs (s.goto (.pwr p (recipeFirst s.params (clampPower p.toInt)))) (xs.map answer ++ [.board .err])
      (State.raise (.busError (addrByte s.params.regMap (recipeWrite s.params (clampPower p.toInt) l).1 .write))
        ((s.storePower (clampPower p.toInt)).carried
          (writesOf s.params.regMap (recipeWrites s.params (clampPower p.toInt)) (xs.map some) ++
            [recipeEvent s.params (clampPower p.toInt) l none]))) := by
  cases xs with
  | nil =>
    have hfirst := isFirst_recipeFirst s.params (clampPower p.toInt)
    obtain rfl : recipeFirst s.params (clampPower p.toInt) = l := by simpa [onward_head] using hl
    have hfails := takes_pwr_strict (p := p) (l := recipeFirst s.params (clampPower p.toInt)) hstrict
    rw [storeFirst, if_pos hfirst] at hfails
    simpa [writesOf] using hfails.runs
  | cons x xs =>
    have hrun := runs_power (s := s) (P := .pwr p) (fun _ _ _ => rfl) (continues_finish []) (some x) (xs.map some)
      (fun y hy hnone => by simp [hnone] at hy) (by simpa using Nat.lt_of_succ_lt hlen)
    have hfails := takes_pwr_strict (p := p) (l := l) (s := (s.storePower (clampPower p.toInt)).carried
      (writesOf s.params.regMap (recipeWrites s.params (clampPower p.toInt)) ((x :: xs).map some))) hstrict
    rw [storeFirst_stored, carried_carried] at hfails
    rw [List.length_map, show xs.length + 1 = (x :: xs).length from rfl, hl] at hrun
    simpa [answerOrErr_some, answerOrErr_comp_some] using hrun.trans hfails.runs

/-- Settles O12: the writes before the one that fails, and its error. -/
theorem pwrStrictFailure : Obligations.PwrStrictFailure := by
  intro s p xs rest hs hstrict hlen henv ws
  have hlength := length_onward_recipeFirst s.params (clampPower p.toInt)
  obtain ⟨l, hl⟩ : ∃ l, (recipeFirst s.params (clampPower p.toInt)).onward[xs.length]? = some l :=
    ⟨_, List.getElem?_eq_getElem (by omega)⟩
  have hws : ws = recipeWrites s.params (clampPower p.toInt) := by rw [clampPower_eq_max_min]
  have hwrite : ws.getD xs.length (0, 0) = recipeWrite s.params (clampPower p.toInt) l := by
    rw [List.getD_eq_getElem?_getD, hws, recipeWrites_eq_map, List.getElem?_map, hl]
    rfl
  have hwrites := writesOf_take_append s.params.regMap ws (xs.map some) none (by simpa [hws] using hlen)
  rw [List.length_map, hwrite] at hwrites
  rw [exec_pwr, issue_ends hs (ts := xs.map answer ++ [.board .err]) (by simpa using henv) (by simp) rfl rfl
    (runs_pwr_strict hstrict xs hlen hl) rfl, hwrites, hwrite]
  congr 1
  apply State.ext <;> simp [State.carried, hs, ← clampPower_eq_max_min, hws, recipeEvent, Event.answerAfter]

end Sys2Proof.Machine
end

section
/-! PROOFS of the family `other`: the reset pulse, the sync phase, the edit of `MODE` and the poll, each run once for whatever
operation it stands in, and the commands that are nothing else (R150 to R154, R170 to R176). -/

namespace Sys2Proof.Machine

/-! ### The reset pulse (R150) -/

/-- The pulse answered `Ok` twice. -/
theorem runs_pulse {s : State} {P : PulseLine → Pos} {ok : State → State} {fail : Err → State → State}
    (hline : ∀ u l, lineAt u (P l) = pulseLine (fun l' t => t.goto (P l')) ok fail l) (hok : Continues ok) :
    Runs (s.goto (P .p1)) pulseTurns (ok (s.dropSetup.carried pulseEvents)) := by
  have hp1 : Takes (s.goto (P .p1)) (.line true) ((s.dropSetup.carried [.setReset true true]).goto (P .p2)) :=
    takes_line rfl (continues_goto _) fun _ => by rw [hline]; rfl
  have hp2 (u : State) : Takes (u.goto (P .p2)) .tick ((u.carried [.hold 100]).goto (P .p3)) :=
    takes_line rfl (continues_goto _) fun _ => by rw [hline]; rfl
  have hp3 (u : State) : Takes (u.goto (P .p3)) (.line true) ((u.carried [.setReset false true]).goto (P .p4)) :=
    takes_line rfl (continues_goto _) fun _ => by rw [hline]; rfl
  have hp4 (u : State) : Takes (u.goto (P .p4)) .tick (ok (u.carried [.hold 5000])) :=
    takes_line rfl hok fun _ => by rw [hline]; rfl
  simpa only [carried_carried, List.cons_append, List.nil_append, pulseTurns, pulseEvents] using
    Runs.cons hp1 (.cons (hp2 _) (.cons (hp3 _) (hp4 _).runs))

theorem exec_rstp (s : State) : exec .rstp s = issue false false (fun t => t.goto (.rstp .p1)) s := rfl

/-- The first setting of `RSTP` failed (R253). -/
theorem takes_rstp_first_failed (s : State) : Takes (s.goto (.rstp .p1)) (.line false)
    (State.raise (.resetLineError true) (s.dropSetup.carried [.setReset true false])) :=
  takes_line rfl (continues_raise _) fun _ => rfl

/-- The second setting of `RSTP` failed (R253). -/
theorem runs_rstp_second_failed (s : State) : Runs (s.goto (.rstp .p1)) [.line true, .tick, .line false]
    (State.raise (.resetLineError false)
      (s.dropSetup.carried [.setReset true true, .hold 100, .setReset false false])) := by
  have hp1 : Takes (s.goto (.rstp .p1)) (.line true) ((s.dropSetup.carried [.setReset true true]).goto (.rstp .p2)) :=
    takes_line rfl (continues_goto _) fun _ => rfl
  have hp2 (u : State) : Takes (u.goto (.rstp .p2)) .tick ((u.carried [.hold 100]).goto (.rstp .p3)) :=
    takes_line rfl (continues_goto _) fun _ => rfl
  have hp3 (u : State) : Takes (u.goto (.rstp .p3)) (.line false)
      (State.raise (.resetLineError false) (u.carried [.setReset false false])) :=
    takes_line rfl (continues_raise _) fun _ => rfl
  simpa only [carried_carried, List.cons_append, List.nil_append] using Runs.cons hp1 (.cons (hp2 _) (hp3 _).runs)

/-- Settles O16: the pulse, and each of its settings failed. -/
theorem rstpPulses : Obligations.RstpPulses := by
  intro s rest hs
  refine ⟨fun henv => ?answered, fun henv => ?firstFailed, fun henv => ?secondFailed⟩
  case answered =>
    rw [exec_rstp, issue_ends (ts := pulseTurns) hs henv (by simp) rfl rfl
      (runs_pulse (P := .rstp) (fun _ _ => rfl) (continues_finish [])) rfl]
    congr 1
    apply State.ext <;> simp [State.carried, hs, okResponse, pulseEvents, Event.answerAfter]
  case firstFailed =>
    rw [exec_rstp, issue_ends (ts := [.line false]) hs henv (by simp) rfl rfl (takes_rstp_first_failed s).runs rfl]
    congr 1
    apply State.ext <;> simp [State.carried, hs, Event.answerAfter, Err.response, Err.code, Err.info]
  case secondFailed =>
    rw [exec_rstp, issue_ends (ts := [.line true, .tick, .line false]) hs henv (by simp) rfl rfl
      (runs_rstp_second_failed s) rfl]
    congr 1
    apply State.ext <;> simp [State.carried, hs, Event.answerAfter, Err.response, Err.code, Err.info]

/-! ### The sync phase (R152, R154) -/

/-- The attempts are counted from `n` on. -/
def State.attempted (n : Nat) (s : State) : State := { s with attempt := n }

theorem before_startSync_eq_attempted (h : LoopHead) (s : State) :
    h.before State.startSync s = s.attempted (h.before State.startSync s).attempt := by
  cases h <;> rfl

section
variable {P : SyncLine → Pos} {sentinel : Byte} {ok : State → State} {fail : Err → State → State}
variable (hline : ∀ u l, lineAt u (P l) = syncLine u.params.regMap sentinel (fun l' t => t.goto (P l')) ok fail l)
include hline

/-- The read of an attempt that returns the sentinel (R152). -/
theorem takes_sync_hit {s : State} {h : LoopHead} {x : Byte × Byte} (hok : Continues ok) (hx : x.2 = sentinel) :
    Takes (s.goto (P (.y1 h))) (answer x)
      (ok ((h.before State.startSync s).carried [readOf s.params.regMap s.params.regMap.aSync x])) := by
  refine takes_line rfl hok fun _ => ?_
  rw [hline, answer, complete_syncLine_y1_ok]
  refine (if_pos hx).trans ?_
  cases h <;> rfl

/-- The read of an attempt that returns something else (R152). -/
theorem takes_sync_miss {s : State} {h : LoopHead} {x : Byte × Byte} (hx : x.2 ≠ sentinel) :
    Takes (s.goto (P (.y1 h))) (answer x)
      (((h.before State.startSync s).carried [readOf s.params.regMap s.params.regMap.aSync x]).goto (P .y2)) := by
  refine takes_line rfl (continues_goto _) fun _ => ?_
  rw [hline, answer, complete_syncLine_y1_ok]
  refine (if_neg hx).trans ?_
  cases h <;> rfl

/-- The write of an attempt that is not the last (R152). -/
theorem takes_sync_again {s : State} {y : Byte × Byte} (hs : s.attempt ≠ 15) :
    Takes (s.goto (P .y2)) (answer y)
      ((s.carried [writeOf s.params.regMap s.params.regMap.aSync sentinel y]).countAttempt.goto (P (.y1 .repeated))) := by
  refine takes_line rfl (continues_goto _) fun _ => ?_
  rw [hline, answer, complete_syncLine_y2_ok]
  exact if_neg hs

/-- The write of the last attempt (R154). -/
theorem takes_sync_last {s : State} {y : Byte × Byte} (hfail : Continues (fail (.notSyncing sentinel)))
    (hs : s.attempt = 15) :
    Takes (s.goto (P .y2)) (answer y)
      (fail (.notSyncing sentinel) (s.carried [writeOf s.params.regMap s.params.regMap.aSync sentinel y])) := by
  refine takes_line rfl hfail fun _ => ?_
  rw [hline, answer, complete_syncLine_y2_ok]
  exact if_pos hs

/-- An attempt that reads something else, and is not the last (R152). -/
theorem runs_sync_attempt {s : State} {h : LoopHead} {m : Miss} (hm : m.1.2 ≠ sentinel)
    (hs : (h.before State.startSync s).attempt ≠ 15) :
    Runs (s.goto (P (.y1 h))) [answer m.1, answer m.2]
      (((s.attempted ((h.before State.startSync s).attempt + 1)).carried (missEvents s.params.regMap sentinel [m])).goto
        (P (.y1 .repeated))) := by
  have hmiss := takes_sync_miss hline (s := s) (h := h) hm
  have hagain := takes_sync_again hline (y := m.2)
    (s := (h.before State.startSync s).carried [readOf s.params.regMap s.params.regMap.aSync m.1]) hs
  refine (Runs.cons hmiss hagain.runs).to (congrArg (State.goto · _) ?_)
  cases h <;> apply State.ext <;> simp [State.carried, State.attempted, missEvents]

/-- A phase that reads the sentinel within its fifteen attempts (R152). -/
theorem runs_sync_ok (hok : Continues ok) {x : Byte × Byte} (hx : x.2 = sentinel) {ms : List Miss}
    (hms : ∀ m ∈ ms, m.1.2 ≠ sentinel) {s : State} {h : LoopHead}
    (hlen : (h.before State.startSync s).attempt + ms.length ≤ 15) :
    Runs (s.goto (P (.y1 h))) (missTurns ms ++ [answer x])
      (ok ((s.attempted ((h.before State.startSync s).attempt + ms.length)).carried
        (missEvents s.params.regMap sentinel ms ++ [readOf s.params.regMap s.params.regMap.aSync x]))) := by
  induction ms generalizing s h with
  | nil =>
    refine (takes_sync_hit hline hok hx).runs.to (congrArg ok ?_)
    cases h <;> rfl
  | cons m ms ih =>
    rw [List.length_cons] at hlen ⊢
    have hattempt := runs_sync_attempt hline (s := s) (h := h) (hms m (List.mem_cons_self ..)) (by omega)
    have hrest := ih (fun m' hm' => hms m' (List.mem_cons_of_mem _ hm')) (h := .repeated)
      (s := (s.attempted ((h.before State.startSync s).attempt + 1)).carried (missEvents s.params.regMap sentinel [m]))
      (show (h.before State.startSync s).attempt + 1 + ms.length ≤ 15 by omega)
    refine (hattempt.trans hrest).to (congrArg ok ?_)
    rw [show (h.before State.startSync s).attempt + (ms.length + 1) = (h.before State.startSync s).attempt + 1 + ms.length by omega]
    apply State.ext <;> simp [State.carried, State.attempted, missEvents]

/-- A phase whose attempts up to the fifteenth read something else (R154). -/
theorem runs_sync_fails (hfail : Continues (fail (.notSyncing sentinel))) {ms : List Miss}
    (hms : ∀ m ∈ ms, m.1.2 ≠ sentinel) {s : State} {h : LoopHead}
    (hlen : (h.before State.startSync s).attempt + ms.length = 16) (hne : ms ≠ []) :
    Runs (s.goto (P (.y1 h))) (missTurns ms)
      (fail (.notSyncing sentinel) ((s.attempted 15).carried (missEvents s.params.regMap sentinel ms))) := by
  induction ms generalizing s h with
  | nil => exact absurd rfl hne
  | cons m ms ih =>
    rw [List.length_cons] at hlen
    by_cases hlast : ms = []
    · subst hlast
      have hcount : (h.before State.startSync s).attempt = 15 := by simpa using hlen
      have hmiss := takes_sync_miss hline (s := s) (h := h) (hms m (List.mem_cons_self ..))
      have hwrite := takes_sync_last hline hfail (y := m.2)
        (s := (h.before State.startSync s).carried [readOf s.params.regMap s.params.regMap.aSync m.1]) hcount
      refine (Runs.cons hmiss hwrite.runs).to (congrArg (fail _) ?_)
      rw [before_startSync_eq_attempted, hcount, carried_carried]
      rfl
    · have hpos := List.length_pos_iff.mpr hlast
      have hattempt := runs_sync_attempt hline (s := s) (h := h) (hms m (List.mem_cons_self ..)) (by omega)
      have hrest := ih (fun m' hm' => hms m' (List.mem_cons_of_mem _ hm')) (h := .repeated)
        (s := (s.attempted ((h.before State.startSync s).attempt + 1)).carried (missEvents s.params.regMap sentinel [m]))
        (show (h.before State.startSync s).attempt + 1 + ms.length = 16 by omega) hlast
      refine (hattempt.trans hrest).to (congrArg (fail _) ?_)
      apply State.ext <;> simp [State.carried, State.attempted, missEvents]

end

theorem exec_sync (sentinel : Byte) (s : State) :
    exec (.sync sentinel) s = issue false false (fun t => t.goto (.sync sentinel (.y1 .entered))) s := rfl

/-- Settles O17: the attempts before the one that reads the sentinel, and that read. -/
theorem syncSucceeds : Obligations.SyncSucceeds := by
  intro s sentinel ms x rest hs hlen hms hx henv
  have hrun := runs_sync_ok (P := .sync sentinel) (s := s) (h := .entered) (fun _ _ => rfl) (continues_finish []) hx hms
    (by simp; omega)
  rw [exec_sync, issue_ends hs (ts := missTurns ms ++ [answer x]) (by simpa using henv) (by simp) rfl rfl hrun rfl]
  congr 1
  apply State.ext <;> simp [State.carried, State.attempted, hs, okResponse, Nat.add_comm]

/-- The last answer of failing attempts is that to the write of the last of them. -/
theorem answerAfter_missEvents (r : RegMap) (sentinel : Byte) (ms : List Miss) (rx : Option (List Byte)) :
    (missEvents r sentinel ms).foldl Event.answerAfter rx = ((ms.getLast?).map fun m => some [m.2.1, m.2.2]).getD rx := by
  induction ms generalizing rx with
  | nil => rfl
  | cons m ms ih =>
    have hfold : (missEvents r sentinel (m :: ms)).foldl Event.answerAfter rx =
      (missEvents r sentinel ms).foldl Event.answerAfter (some [m.2.1, m.2.2]) := rfl
    rw [hfold, ih]
    cases ms using List.reverseRecOn <;> simp [List.getLast?_cons]

/-- Settles O18: fifteen attempts, and the error with the write of the last. -/
theorem syncFailsAfterFifteen : Obligations.SyncFailsAfterFifteen := by
  intro s sentinel ms rest hs hlen hms henv
  have hne : ms ≠ [] := List.ne_nil_of_length_pos (by omega)
  have hrun := runs_sync_fails (P := .sync sentinel) (s := s) (h := .entered) (fun _ _ => rfl) (continues_raise _) hms
    (by simp; omega) hne
  rw [exec_sync, issue_ends hs henv (by simp) rfl rfl hrun rfl]
  congr 1
  apply State.ext <;> simp [State.carried, State.attempted, hs, Err.response, Err.code, Err.info, answerAfter_missEvents,
    List.getLast?_eq_some_getLast hne]

/-! ### The edit of `MODE` (R170, R171) -/

/-- `MODE m` has read `x` and its write is answered by `y`: the field is replaced, and the shadow takes the mode. -/
def State.moded (m : OpMode) (x y : Byte × Byte) (s : State) : State :=
  { s with editOld := x.2, modeShadow := some m }.carried [readOf s.params.regMap s.params.regMap.aOpmode x,
    writeOf s.params.regMap s.params.regMap.aOpmode (modeFn s.params.regMap m x.2) y]

section
variable {s : State} {P : EditLine → Pos} {m : OpMode} {ok : State → State} {fail : Err → State → State}
variable (hline : ∀ u l, lineAt u (P l) = modeLine u m (fun t => t.goto (P .e2)) ok fail l)
include hline

/-- The read of `MODE` answered: the shadow holds no value (R170). -/
theorem takes_mode_read {x : Byte × Byte} :
    Takes (s.goto (P .e1)) (answer x)
      (((s.clearShadow.latchEdit x.2).carried [readOf s.params.regMap s.params.regMap.aOpmode x]).goto (P .e2)) :=
  takes_line rfl (continues_goto _) fun _ => by rw [hline, answer, complete_modeLine_e1_ok]; rfl

/-- The write of `MODE` answered: the shadow takes the mode (R170). -/
theorem takes_mode_write {y : Byte × Byte} (hok : Continues ok) :
    Takes (s.goto (P .e2)) (answer y)
      (ok ((s.setShadow m).carried [writeOf s.params.regMap s.params.regMap.aOpmode (modeFn s.params.regMap m s.editOld) y])) :=
  takes_line rfl hok fun _ => by rw [hline, answer, complete_modeLine_e2_ok]; rfl

/-- `MODE` with both transactions answered. -/
theorem runs_mode {x y : Byte × Byte} (hok : Continues ok) :
    Runs (s.goto (P .e1)) [answer x, answer y] (ok (s.moded m x y)) :=
  .cons (takes_mode_read hline) ((takes_mode_write hline hok).runs.to (congrArg ok (by
    apply State.ext <;> simp [State.carried, State.moded])))

end

theorem exec_mode (m : OpMode) (s : State) :
    exec (.mode m) s = issue false false (fun t => t.goto (.mode m .e1)) s := rfl

/-- Settles O24: the edit of `MODE` and nothing else. -/
theorem modeReplacesField : Obligations.ModeReplacesField := by
  intro s m x y rest hs henv
  rw [exec_mode, issue_ends (ts := [answer x, answer y]) hs henv (by simp) rfl rfl
    (runs_mode (P := .mode m) (fun _ _ => rfl) (continues_finish [])) rfl]
  congr 1
  apply State.ext <;> simp [State.carried, State.moded, hs, okResponse, modeFn, editFn]

/-- The answer of a poke that failed as the last line of its operation (R122). -/
def pokeResponse (s : State) (e : Err) : List Byte :=
  if s.params.pokePolicy = .strict then e.response else okResponse []

theorem tryErr_last (e : Err) (s : State) :
    tryErr (fun t => t.finish []) State.raise e s = s.respond (pokeResponse s e) := by
  cases h : s.params.pokePolicy <;> simp [tryErr, pokeResponse, h, finish_eq_respond, raise_eq_respond]

theorem continues_respond (bytes : List Byte) : Continues (State.respond bytes) := fun _ _ _ => rfl

/-- The read of the command `MODE` failed (R170, R122). -/
theorem takes_mode_read_failed (s : State) (m : OpMode) :
    Takes (s.goto (.mode m .e1)) (.board .err)
      ((s.clearShadow.carried [readFailed s.params.regMap s.params.regMap.aOpmode]).respond
        (pokeResponse s (.busError (addrByte s.params.regMap s.params.regMap.aOpmode .read)))) :=
  takes_line rfl (continues_respond _) fun _ => by rw [lineAt, lineMode, complete_modeLine_e1_err, tryErr_last]; rfl

/-- The write of the command `MODE` failed (R170, R122). -/
theorem takes_mode_write_failed (s : State) (m : OpMode) :
    Takes (s.goto (.mode m .e2)) (.board .err)
      ((s.carried [writeFailed s.params.regMap s.params.regMap.aOpmode (modeFn s.params.regMap m s.editOld)]).respond
        (pokeResponse s (.busError (addrByte s.params.regMap s.params.regMap.aOpmode .write)))) :=
  takes_line rfl (continues_respond _) fun _ => by rw [lineAt, lineMode, complete_modeLine_e2_err, tryErr_last]; rfl

/-- Settles O25: a failed read, and a failed write after an answered read. -/
theorem modeFailures : Obligations.ModeFailures := by
  intro s m rest hs r
  refine ⟨fun henv => ?readFailed, fun x henv => ?writeFailed⟩
  case readFailed =>
    rw [exec_mode, issue_ends (ts := [.board .err]) hs henv (by simp) rfl rfl (takes_mode_read_failed s m).runs rfl]
    congr 1
    apply State.ext <;> simp [State.carried, State.respond, pokeResponse, hs, okResponse, r]
  case writeFailed =>
    rw [exec_mode, issue_ends (ts := [answer x, .board .err]) hs henv (by simp) rfl rfl
      (.cons (takes_mode_read (P := .mode m) fun _ _ => rfl) (takes_mode_write_failed _ m).runs) rfl]
    congr 1
    apply State.ext <;>
      simp [State.carried, State.respond, pokeResponse, hs, okResponse, r, modeFn, editFn]

/-! ### The poll (R175, R176) -/

/-- The polls are counted from `n` on. -/
def State.polled (n : Nat) (s : State) : State := { s with polls := n }

@[simp] theorem State.polled_polls (n : Nat) (s : State) : (s.polled n).polls = n := rfl

/-- The reads of a poll with their answers. -/
def pollEvents (r : RegMap) (f : Flag) (zs : List (Byte × Byte)) : List Event := zs.map (readOf r (flagAddr r f))

section
variable {P : LoopHead → Pos} {f : Flag} {ok : State → State} {fail : Err → State → State}
variable (hline : ∀ u h, lineAt u (P h) = pollLine u.params.regMap f h (fun t => t.goto (P .repeated)) ok fail)
include hline

/-- A read that shows the flag set (R175). -/
theorem takes_poll_set {s : State} {h : LoopHead} {x : Byte × Byte} (hok : Continues ok)
    (hx : x.2 &&& flagMask s.params.regMap f ≠ 0) :
    Takes (s.goto (P h)) (answer x)
      (ok ((h.before State.startPoll s).carried [readOf s.params.regMap (flagAddr s.params.regMap f) x])) := by
  refine takes_line rfl hok fun _ => ?_
  rw [hline, answer, complete_pollLine_ok]
  refine (if_pos (by simpa [flagSet] using hx)).trans ?_
  cases h <;> rfl

/-- A read that shows the flag clear, within the bound (R175). -/
theorem takes_poll_clear {s : State} {h : LoopHead} {z : Byte × Byte} (hz : z.2 &&& flagMask s.params.regMap f = 0)
    (hbound : s.params.pollLimit ≠ some ((h.before State.startPoll s).polls + 1)) :
    Takes (s.goto (P h)) (answer z)
      (((s.polled ((h.before State.startPoll s).polls + 1)).carried
        [readOf s.params.regMap (flagAddr s.params.regMap f) z]).goto (P .repeated)) := by
  refine takes_line rfl (continues_goto _) fun _ => ?_
  rw [hline, answer, complete_pollLine_ok]
  refine (if_neg (by simpa [flagSet] using hz)).trans ((if_neg (by cases h <;> exact hbound)).trans ?_)
  cases h <;> rfl

/-- The last read the bound allows, with the flag clear (R175). -/
theorem takes_poll_timeout {s : State} {h : LoopHead} {z : Byte × Byte} (hfail : Continues (fail (.pollTimeout f)))
    (hz : z.2 &&& flagMask s.params.regMap f = 0)
    (hbound : s.params.pollLimit = some ((h.before State.startPoll s).polls + 1)) :
    Takes (s.goto (P h)) (answer z)
      (fail (.pollTimeout f) ((s.polled ((h.before State.startPoll s).polls + 1)).carried
        [readOf s.params.regMap (flagAddr s.params.regMap f) z])) := by
  refine takes_line rfl hfail fun _ => ?_
  rw [hline, answer, complete_pollLine_ok]
  refine (if_neg (by simpa [flagSet] using hz)).trans ((if_pos (by cases h <;> exact hbound)).trans ?_)
  cases h <;> rfl

/-- A read that fails (R175). -/
theorem takes_poll_failed {s : State} {h : LoopHead}
    (hfail : Continues (fail (.busError (addrByte s.params.regMap (flagAddr s.params.regMap f) .read)))) :
    Takes (s.goto (P h)) (.board .err)
      (fail (.busError (addrByte s.params.regMap (flagAddr s.params.regMap f) .read))
        ((h.before State.startPoll s).carried [readFailed s.params.regMap (flagAddr s.params.regMap f)])) := by
  refine takes_line rfl hfail fun _ => ?_
  rw [hline, complete_pollLine_err]
  cases h <;> rfl

end

/-- The reads `zs` of a poll have shown the flag clear: they are counted and on record. -/
def State.pollCleared (f : Flag) (zs : List (Byte × Byte)) (s : State) : State :=
  (s.polled (if zs = [] then s.polls else zs.length)).carried (pollEvents s.params.regMap f zs)

@[simp] theorem State.pollCleared_params (f : Flag) (zs : List (Byte × Byte)) (s : State) :
    (s.pollCleared f zs).params = s.params := rfl

/-- With the first line of the loop, the count of the reads so far (R175, R13). -/
theorem before_startPoll_pollCleared (f : Flag) (zs : List (Byte × Byte)) (s : State) :
    (LoopHead.after zs.length).before State.startPoll (s.pollCleared f zs) =
      (s.polled zs.length).carried (pollEvents s.params.regMap f zs) := by
  cases zs <;> rfl

section
variable {P : LoopHead → Pos} {f : Flag} {ok : State → State} {fail : Err → State → State}
variable (hline : ∀ u h, lineAt u (P h) = pollLine u.params.regMap f h (fun t => t.goto (P .repeated)) ok fail)
variable {s : State} {zs : List (Byte × Byte)} (hzs : ∀ z ∈ zs, z.2 &&& flagMask s.params.regMap f = 0)
include hline hzs

/-- Reads that show the flag clear, within the bound. -/
theorem runs_poll_clear (hbound : ∀ n, s.params.pollLimit = some n → zs.length < n) :
    Runs (s.goto (P .entered)) (zs.map answer) ((s.pollCleared f zs).goto (P (.after zs.length))) := by
  induction zs using List.reverseRecOn with
  | nil =>
    exact (Runs.nil _).to (by
      apply State.ext <;> simp [State.pollCleared, State.polled, State.carried, pollEvents, LoopHead.after])
  | append_singleton zs z ih =>
    have hrun := ih (fun z hz => hzs z (by simp [hz])) fun n hn => by have := hbound n hn; simp at this; omega
    have hclear := takes_poll_clear hline (s := s.pollCleared f zs) (h := .after zs.length) (z := z) (hzs z (by simp)) ?_
    · rw [before_startPoll_pollCleared] at hclear
      rw [List.map_append]
      refine (hrun.trans hclear.runs).to ?_
      apply State.ext <;> simp [State.pollCleared, State.polled, State.carried, pollEvents, LoopHead.after]
    · rw [before_startPoll_pollCleared]
      intro hlimit
      simpa using hbound _ hlimit

/-- A poll that ends well within its bound. -/
theorem runs_poll_set (hok : Continues ok) {x : Byte × Byte} (hx : x.2 &&& flagMask s.params.regMap f ≠ 0)
    (hbound : ∀ n, s.params.pollLimit = some n → zs.length < n) :
    Runs (s.goto (P .entered)) (zs.map answer ++ [answer x])
      (ok ((s.polled zs.length).carried (pollEvents s.params.regMap f (zs ++ [x])))) := by
  have hset := takes_poll_set hline (s := s.pollCleared f zs) (h := .after zs.length) hok hx
  rw [before_startPoll_pollCleared] at hset
  refine ((runs_poll_clear hline hzs hbound).trans hset.runs).to (congrArg ok ?_)
  rw [carried_carried]
  simp [pollEvents, State.pollCleared]
  rfl

/-- A poll whose read fails within its bound. -/
theorem runs_poll_failed (hfail : Continues (fail (.busError (addrByte s.params.regMap (flagAddr s.params.regMap f) .read))))
    (hbound : ∀ n, s.params.pollLimit = some n → zs.length < n) :
    Runs (s.goto (P .entered)) (zs.map answer ++ [.board .err])
      (fail (.busError (addrByte s.params.regMap (flagAddr s.params.regMap f) .read)) ((s.polled zs.length).carried
        (pollEvents s.params.regMap f zs ++ [readFailed s.params.regMap (flagAddr s.params.regMap f)]))) := by
  have hfails := takes_poll_failed hline (s := s.pollCleared f zs) (h := .after zs.length) hfail
  rw [before_startPoll_pollCleared] at hfails
  refine ((runs_poll_clear hline hzs hbound).trans hfails.runs).to (congrArg (fail _) ?_)
  rw [carried_carried]
  rfl

/-- A poll that meets its bound with the flag clear. -/
theorem runs_poll_timeout (hfail : Continues (fail (.pollTimeout f))) (hbound : s.params.pollLimit = some zs.length) :
    Runs (s.goto (P .entered)) (zs.map answer)
      (fail (.pollTimeout f) ((s.polled zs.length).carried (pollEvents s.params.regMap f zs))) := by
  cases zs using List.reverseRecOn with
  | nil => exact absurd hbound s.params.pollLimitWf
  | append_singleton zs z =>
    have hrun := runs_poll_clear hline (s := s) (zs := zs) (fun z hz => hzs z (by simp [hz])) fun n hn => by
      rw [hbound] at hn
      simp at hn
      omega
    have htimeout := takes_poll_timeout hline (s := s.pollCleared f zs) (h := .after zs.length) (z := z) hfail (hzs z (by simp))
      (by rw [before_startPoll_pollCleared]; simpa using hbound)
    rw [before_startPoll_pollCleared] at htimeout
    rw [List.map_append]
    refine (hrun.trans htimeout.runs).to (congrArg (fail _) ?_)
    apply State.ext <;> simp [State.pollCleared, State.polled, State.carried, pollEvents]

end

/-! ### `WAITF` -/

theorem exec_waitf (f : Flag) (s : State) :
    exec (.waitf f) s = issue false false (fun t => t.goto (.waitf f .entered)) s := rfl

/-- Settles O26: the poll and nothing else. -/
theorem waitfReturnsWhenSet : Obligations.WaitfReturnsWhenSet := by
  intro s f zs x rest hs hbound hzs hx henv
  rw [exec_waitf, issue_ends (ts := zs.map answer ++ [answer x]) hs (by simpa using henv) (by simp) rfl rfl
    (runs_poll_set (P := .waitf f) (fun _ _ => rfl) hzs (continues_finish []) hx hbound) rfl]
  congr 1
  apply State.ext <;> simp [State.carried, State.polled, hs, okResponse, pollEvents]

/-- Settles O28: the reads so far lead back to `F1`. -/
theorem waitfSpins : Obligations.WaitfSpins := by
  intro s f zs rest hs hlimit hzs hothers henv
  have hrun := runs_poll_clear (P := .waitf f) (ok := fun t => t.finish []) (fail := State.raise) (fun _ _ => rfl) hzs
    (fun n hn => by simp [hlimit] at hn)
  rw [exec_waitf, issue_runs hs henv (by simp) rfl rfl hrun, drive_othersNext hothers]
  refine ⟨_, rfl, ?spinning, rfl, rfl, rfl⟩
  case spinning => simp [State.spinning, State.pollCleared, State.polled, hlimit]

/-- A poll of `SEND` is the loop of `WAITF`, entered from the write of the `MODE` before it (R190). -/
theorem sendPolls_lines {dst : Byte} {payload : List Byte} {l : SendLine} {lw : LoopHead → SendLine} {m : OpMode} {f : Flag}
    (hmem : (l, lw, m, f) ∈ sendPolls) :
    (∃ at2, ∀ u, lineAt u (.send dst payload l) =
      modeLine u m at2 (fun t => t.goto (.send dst payload (lw .entered))) State.raise .e2) ∧
    ∃ ok, ∀ u h, lineAt u (.send dst payload (lw h)) =
      pollLine u.params.regMap f h (fun t => t.goto (.send dst payload (lw .repeated))) ok State.raise := by
  simp only [sendPolls, List.mem_cons, Prod.mk.injEq, List.not_mem_nil, or_false] at hmem
  obtain ⟨rfl, rfl, rfl, rfl⟩ | ⟨rfl, rfl, rfl, rfl⟩ | ⟨rfl, rfl, rfl, rfl⟩ := hmem
  · exact ⟨⟨fun t => t.goto (.send dst payload (.t1 .e2)), fun _ => rfl⟩,
      fun t => t.goto (.send dst payload .t2), fun _ _ => rfl⟩
  · exact ⟨⟨fun t => t.goto (.send dst payload (.t6 .e2)), fun _ => rfl⟩,
      fun t => t.goto (.send dst payload (.t7 .e1)), fun _ _ => rfl⟩
  · exact ⟨⟨fun t => t.goto (.send dst payload (.t7 .e2)), fun _ => rfl⟩,
      fun t => t.goto (.send dst payload (.t7p (recipeFirst t.params t.params.idlePower))),
      fun _ _ => rfl⟩

/-- The write of the `MODE` before a poll of `SEND` answered: the poll is entered. -/
theorem takes_send_mode_write {dst : Byte} {payload : List Byte} {l : SendLine} {lw : LoopHead → SendLine} {m : OpMode}
    {f : Flag} (hmem : (l, lw, m, f) ∈ sendPolls) (s : State) (y : Byte × Byte) :
    Takes (s.goto (.send dst payload l)) (answer y)
      (((s.setShadow m).carried [writeOf s.params.regMap s.params.regMap.aOpmode (modeFn s.params.regMap m s.editOld) y]).goto
        (.send dst payload (lw .entered))) := by
  obtain ⟨⟨at2, hline⟩, -⟩ := sendPolls_lines (dst := dst) (payload := payload) hmem
  exact takes_line rfl (continues_goto _) fun _ => by rw [hline, answer, complete_modeLine_e2_ok]; rfl

theorem goto_self {s : State} {p : Pos} (hs : s.seq = .running p) : s.goto p = s := by
  rw [State.goto, ← hs]

/-- A run from where the sequencer stands, as steps. -/
theorem Runs.stepsTo_of_env {s t : State} {p : Pos} {ts rest : List Turn} (hs : s.seq = .running p) (henv : s.env = ts ++ rest)
    (h : Runs (s.goto p) ts t) : Sys2Proof.Machine.stepsTo ts.length s (t.withEnv rest) := by
  have hsteps := h.stepsTo rest
  rwa [goto_self hs, ← henv] at hsteps

@[simp] theorem response_pollTimeout (f : Flag) :
    (Err.pollTimeout f).response = [0x06, if f = .modeReady then 0 else 1] := by
  cases f <;> rfl

/-- Settles O27: the poll that meets its bound, the poll whose read fails, and the poll that goes on, of `WAITF` and of `SEND`. -/
theorem waitfEndsWithError : Obligations.WaitfEndsWithError := by
  intro s f zs rest hzs
  have hne (hbound : s.params.pollLimit = some zs.length) : zs ≠ [] := by
    rintro rfl
    exact s.params.pollLimitWf hbound
  refine ⟨fun hs hbound henv => ?timeout, fun hs hbound henv => ?failed, fun dst payload l lw m y hmem hs => ?send⟩
  case timeout =>
    rw [exec_waitf, issue_ends hs henv (by simp) rfl rfl
      (runs_poll_timeout (P := .waitf f) (ok := fun t => t.finish []) (fun _ _ => rfl) hzs (continues_raise _) hbound) rfl]
    congr 1
    apply State.ext <;> simp [State.carried, State.polled, hs, pollEvents, List.getLast?_eq_some_getLast (hne hbound)]
  case failed =>
    rw [exec_waitf, issue_ends (ts := zs.map answer ++ [.board .err]) hs (by simpa using henv) (by simp) rfl rfl
      (runs_poll_failed (P := .waitf f) (ok := fun t => t.finish []) (fun _ _ => rfl) hzs (continues_raise _) hbound) rfl]
    congr 1
    apply State.ext <;> simp [State.carried, State.polled, hs, pollEvents]
  case send =>
    intro r modeWrite
    obtain ⟨-, ok, hline⟩ := sendPolls_lines (dst := dst) (payload := payload) hmem
    have hwrite : Takes (s.goto (.send dst payload l)) (answer y)
      (((s.setShadow m).carried [modeWrite]).goto (.send dst payload (lw .entered))) := takes_send_mode_write hmem s y
    refine ⟨fun hbound henv => ?timeout, fun hbound henv => ?failed, fun hbound henv => ?goesOn⟩
    case timeout =>
      have hpoll := runs_poll_timeout (s := (s.setShadow m).carried [modeWrite]) (P := fun h => .send dst payload (lw h))
        hline hzs (continues_raise _) hbound
      convert (Runs.cons hwrite hpoll).stepsTo_of_env hs henv using 1
      · simp
      · apply State.ext <;>
          simp [State.carried, State.polled, pollEvents, List.getLast?_eq_some_getLast (hne hbound), r, modeWrite]
    case failed =>
      have hpoll := runs_poll_failed (s := (s.setShadow m).carried [modeWrite]) (P := fun h => .send dst payload (lw h))
        hline hzs (continues_raise _) hbound
      convert (Runs.cons hwrite hpoll).stepsTo_of_env hs (rest := rest) (by simpa using henv) using 1
      · simp
      · apply State.ext <;> simp [State.carried, State.polled, pollEvents, r, modeWrite]
    case goesOn =>
      have hpoll := runs_poll_clear (s := (s.setShadow m).carried [modeWrite]) (P := fun h => .send dst payload (lw h))
        hline hzs hbound
      convert (Runs.cons hwrite hpoll).stepsTo_of_env hs henv using 1
      · simp
      · cases hlast : zs.getLast? <;>
          (apply State.ext <;> simp [State.carried, State.pollCleared, State.polled, pollEvents, hlast, r, modeWrite])

end Sys2Proof.Machine
end

section
/-! PROOFS of the family `other`: `SETUP`, `SEND` and the arm of `RXS` run through, assembled from the runs of their parts (R158,
R190, R210 to R216). -/

namespace Sys2Proof.Machine

/-! ### `SETUP` (R158) -/

theorem exec_setup (cfg : List (Byte × Byte)) (s : State) :
    exec (.setup cfg) s = issue false false (fun t => (t.latchConfig cfg).goto (.setup cfg (.s1 .p1))) s := rfl

/-- `SETUP cfg` at the first phase: the Config is latched, the pulse made. -/
def State.setupPulsed (cfg : List (Byte × Byte)) (s : State) : State := (s.latchConfig cfg).dropSetup.carried pulseEvents

/-- The pulse of `SETUP` leads to its first phase. -/
theorem runs_setup_pulse (cfg : List (Byte × Byte)) (s : State) :
    Runs ((s.latchConfig cfg).goto (.setup cfg (.s1 .p1))) pulseTurns
      ((s.setupPulsed cfg).goto (.setup cfg (.s2 (.y1 .entered)))) :=
  runs_pulse (P := fun l => .setup cfg (.s1 l)) (fun _ _ => rfl) (continues_goto _)

/-- A phase has read the sentinel after the attempts `ms`. -/
def State.phased (sentinel : Byte) (ms : List Miss) (x : Byte × Byte) (s : State) : State :=
  (s.attempted (1 + ms.length)).carried
    (missEvents s.params.regMap sentinel ms ++ [readOf s.params.regMap s.params.regMap.aSync x])

section
variable {s : State} {cfg : List (Byte × Byte)} {ms : List Miss} {x : Byte × Byte}

/-- A first phase that succeeds leads to the second. -/
theorem runs_setup_phase1 (hlen : ms.length < 15) (hms : ∀ m ∈ ms, m.1.2 ≠ 0xAA) (hx : x.2 = 0xAA) :
    Runs (s.goto (.setup cfg (.s2 (.y1 .entered)))) (missTurns ms ++ [answer x])
      ((s.phased 0xAA ms x).goto (.setup cfg (.s3 (.y1 .entered)))) :=
  runs_sync_ok (P := fun l => .setup cfg (.s2 l)) (fun _ _ => rfl) (continues_goto _) hx hms
    (show 1 + ms.length ≤ 15 by omega)

theorem continues_gotoConfig (cfg : List (Byte × Byte)) : Continues (State.gotoConfig cfg) := fun u p env =>
  if h : u.cfg.length = 0 then by simp [State.gotoConfig, h]; rfl else by simp [State.gotoConfig, h]; rfl

/-- A second phase that succeeds leads to the Config. -/
theorem runs_setup_phase2 (hlen : ms.length < 15) (hms : ∀ m ∈ ms, m.1.2 ≠ 0x55) (hx : x.2 = 0x55) :
    Runs (s.goto (.setup cfg (.s3 (.y1 .entered)))) (missTurns ms ++ [answer x])
      ((s.phased 0x55 ms x).gotoConfig cfg) :=
  runs_sync_ok (P := fun l => .setup cfg (.s3 l)) (fun _ _ => rfl) (continues_gotoConfig cfg) hx hms
    (show 1 + ms.length ≤ 15 by omega)

end

@[simp] theorem writesOf_nil (r : RegMap) (ws : List (Byte × Byte)) : writesOf r ws [] = [] := List.zipWith_nil_right

theorem writesOf_cons (r : RegMap) (w y : Byte × Byte) (ws : List (Byte × Byte)) (ys : List (Option (Byte × Byte))) :
    writesOf r (w :: ws) (some y :: ys) = writeOf r w.1 w.2 y :: writesOf r ws ys := rfl

/-- The pairs of the Config are counted from `i` on. -/
def State.paired (i : Nat) (s : State) : State := { s with cfgI := i }

/-- After the write of a pair: the next one, or, after the last, the power (R158). -/
def afterPair (cfg : List (Byte × Byte)) (t : State) : State :=
  if t.cfgI + 1 < t.cfg.length then t.nextPair.goto (.setup cfg .s4) else t.nextPair.gotoPower cfg

theorem continues_afterPair (cfg : List (Byte × Byte)) : Continues (afterPair cfg) := fun u p env =>
  if h : u.cfgI + 1 < u.cfg.length then by simp [afterPair, h]; rfl else by simp [afterPair, h]; rfl

/-- `S4` answered. -/
theorem takes_setup_pair (s : State) (cfg : List (Byte × Byte)) (y : Byte × Byte) :
    Takes (s.goto (.setup cfg .s4)) (answer y) (afterPair cfg (s.carried
      [writeOf s.params.regMap (s.cfg.getD s.cfgI (0, 0)).1 (s.cfg.getD s.cfgI (0, 0)).2 y])) :=
  takes_write (fail := State.raiseSetup) y rfl (continues_afterPair cfg)

/-- The pairs of the Config from the one in turn on. -/
theorem runs_setup_pairs {cfg : List (Byte × Byte)} {cs : List (Byte × Byte)} {s : State}
    (hlen : s.cfgI + cs.length = s.cfg.length) (hne : cs ≠ []) :
    Runs (s.goto (.setup cfg .s4)) (cs.map answer)
      (((s.paired s.cfg.length).carried (writesOf s.params.regMap (s.cfg.drop s.cfgI) (cs.map some))).gotoPower cfg) := by
  induction cs generalizing s with
  | nil => exact absurd rfl hne
  | cons y cs ih =>
    have hi : s.cfgI < s.cfg.length := by simp at hlen; omega
    have hpair := takes_setup_pair s cfg y
    rw [List.getD_eq_getElem _ _ hi] at hpair
    rw [List.drop_eq_getElem_cons hi, List.map_cons, List.map_cons, writesOf_cons]
    rw [List.length_cons] at hlen
    by_cases hlast : cs = []
    · subst hlast
      have hend : s.cfgI + 1 = s.cfg.length := by simpa using hlen
      rw [afterPair, if_neg (by simp [hend])] at hpair
      refine hpair.runs.to (congrArg (State.gotoPower cfg) ?_)
      apply State.ext <;> simp [State.carried, State.paired, hend]
    · have hpos := List.length_pos_iff.mpr hlast
      rw [afterPair, if_pos (by simp; omega)] at hpair
      have hrest := ih (s := (s.carried [writeOf s.params.regMap s.cfg[s.cfgI].1 s.cfg[s.cfgI].2 y]).nextPair)
        (show s.cfgI + 1 + cs.length = s.cfg.length by omega) hlast
      refine (Runs.cons hpair hrest).to (congrArg (State.gotoPower cfg) ?_)
      apply State.ext <;> simp [State.carried, State.paired]

/-- The Config of `SETUP`, pair by pair. -/
theorem runs_setup_config {cfg : List (Byte × Byte)} {cs : List (Byte × Byte)} {s : State} (hcfg : s.cfg = cfg)
    (hlen : cs.length = cfg.length) :
    Runs (s.gotoConfig cfg) (cs.map answer)
      (((s.paired cfg.length).carried (writesOf s.params.regMap cfg (cs.map some))).gotoPower cfg) := by
  rw [State.gotoConfig, hcfg]
  split
  case isTrue hempty =>
    obtain rfl : cfg = [] := List.length_eq_zero_iff.mp hempty
    obtain rfl : cs = [] := List.length_eq_zero_iff.mp hlen
    exact (Runs.nil _).to (by apply State.ext <;> simp [State.carried, State.paired])
  case isFalse hsome =>
    have hpairs := runs_setup_pairs (s := s.firstPair) (cfg := cfg) (cs := cs) (by simp [hcfg, hlen])
      (List.ne_nil_of_length_pos (by omega))
    refine hpairs.to (congrArg (State.gotoPower cfg) ?_)
    apply State.ext <;> simp [State.carried, State.paired, hcfg]

/-- The power of `SETUP`, its last lines (R158). -/
theorem runs_setup_power (cfg : List (Byte × Byte)) (s : State) (ys : List (Byte × Byte)) (hlen : ys.length = 4) :
    Runs (s.gotoPower cfg) (ys.map answer)
      ((s.storePower (clampPower s.params.initialPower)).carried
        (writesOf s.params.regMap (recipeWrites s.params (clampPower s.params.initialPower)) (ys.map some))).finishSetup := by
  have hrun := runs_power_whole (s := s) (P := fun l => .setup cfg (.s5 l)) (d := s.params.initialPower)
    (fail := State.raiseSetup) (fun u l hu => by rw [← hu]; rfl) continues_finishSetup (ys := ys.map some) (by simpa using hlen)
    (fun y hy hnone => by simp [hnone] at hy)
  rwa [List.map_map, answerOrErr_comp_some] at hrun

/-- Settles O20: the pulse, the two phases, the Config and the power, one after the other. -/
theorem setupCompletes : Obligations.SetupCompletes := by
  intro s cfg ms1 ms2 x1 x2 y1 y2 y3 y4 cs rest hs hlen1 hms1 hx1 hlen2 hms2 hx2 hlen henv
  have hrun := ((((runs_setup_pulse cfg s).trans (runs_setup_phase1 hlen1 hms1 hx1)).trans (runs_setup_phase2 hlen2 hms2 hx2)).trans
    (runs_setup_config rfl hlen)).trans (runs_setup_power cfg _ [y1, y2, y3, y4] rfl)
  rw [exec_setup, issue_ends (rest := rest) hs (by simpa using henv) (by simp) rfl rfl hrun rfl]
  refine ⟨_, rfl, ?_⟩
  apply State.ext <;>
    simp [State.carried, State.phased, State.attempted, State.paired, State.setupPulsed, hs, okResponse, answerAfter_writesOf,
      ← clampPower_eq_max_min, Nat.add_comm]

/-- Settles O21: the phase that fails, the first or, after a first that succeeds, the second. -/
theorem setupHandshakeFailure : Obligations.SetupHandshakeFailure := by
  intro s cfg rest hs
  refine ⟨fun ms hlen hms henv => ?first, fun ms1 ms2 x hlen1 hms1 hx hlen2 hms2 henv => ?second⟩
  case first =>
    have hphase := runs_sync_fails (P := fun l => .setup cfg (.s2 l)) (s := s.setupPulsed cfg) (h := .entered)
      (ok := fun t => t.goto (.setup cfg (.s3 (.y1 .entered)))) (fun _ _ => rfl) (continues_raiseSetup _) hms
      (show 1 + ms.length = 16 by omega) (List.ne_nil_of_length_pos (by omega))
    rw [exec_setup, issue_ends (rest := rest) hs (by simpa using henv) (by simp) rfl rfl
      ((runs_setup_pulse cfg s).trans hphase) rfl]
    refine ⟨_, rfl, ?_⟩
    apply State.ext <;>
      simp [State.carried, State.attempted, State.setupPulsed, hs, Err.response, Err.code, Err.info,
        Config.sentinel1]
  case second =>
    have hphase := runs_sync_fails (P := fun l => .setup cfg (.s3 l)) (s := (s.setupPulsed cfg).phased 0xAA ms1 x) (h := .entered)
      (ok := State.gotoConfig cfg) (fun _ _ => rfl) (continues_raiseSetup _) hms2
      (show 1 + ms2.length = 16 by omega) (List.ne_nil_of_length_pos (by omega))
    rw [exec_setup, issue_ends (rest := rest) hs (by simpa using henv) (by simp) rfl rfl
      (((runs_setup_pulse cfg s).trans (runs_setup_phase1 hlen1 hms1 hx)).trans hphase) rfl]
    refine ⟨_, rfl, ?_⟩
    apply State.ext <;>
      simp [State.carried, State.phased, State.attempted, State.setupPulsed, hs, Err.response, Err.code, Err.info,
        Config.sentinel2]

/-! ### `SEND` (R190) -/

theorem exec_send (dst : Byte) (payload : List Byte) (s : State) :
    exec (.send dst payload) s = issue true (decide (Config.maxPayload < payload.length))
      (fun t => (t.latchSend dst payload).goto (.send dst payload (.t1 .e1))) s := rfl

/-- A poll has shown the flag clear in `zs` and set in `x`. -/
def State.pollSet (f : Flag) (zs : List (Byte × Byte)) (x : Byte × Byte) (s : State) : State :=
  (s.polled zs.length).carried (pollEvents s.params.regMap f (zs ++ [x]))

section
variable (m : OpMode) (f : Flag) (zs : List (Byte × Byte)) (x y : Byte × Byte) (s : State)

@[simp] theorem State.moded_params : (s.moded m x y).params = s.params := rfl
@[simp] theorem State.moded_txPower : (s.moded m x y).txPower = s.txPower := rfl
@[simp] theorem State.moded_txDst : (s.moded m x y).txDst = s.txDst := rfl
@[simp] theorem State.moded_txPayload : (s.moded m x y).txPayload = s.txPayload := rfl
@[simp] theorem State.pollSet_params : (s.pollSet f zs x).params = s.params := rfl
@[simp] theorem State.pollSet_txPower : (s.pollSet f zs x).txPower = s.txPower := rfl
@[simp] theorem State.pollSet_txDst : (s.pollSet f zs x).txDst = s.txDst := rfl
@[simp] theorem State.pollSet_txPayload : (s.pollSet f zs x).txPayload = s.txPayload := rfl

end

/-- `SEND` at the recipe: the FIFO of the chip, in Standby, is cleared. -/
def State.sendReady (x1 x2 p c : Byte × Byte) (zs : List (Byte × Byte)) (s : State) : State :=
  ((s.moded .standby x1 x2).pollSet .modeReady zs p).carried
    [writeOf s.params.regMap s.params.regMap.aIrqFlags s.params.regMap.vFifoClear c]

section
variable {s : State} {dst : Byte} {payload : List Byte}

/-- `T1` to `T2`: Standby, the poll, the FIFO clear. -/
theorem runs_send_ready {x1 x2 p c : Byte × Byte} {zs : List (Byte × Byte)}
    (hbound : ∀ n, s.params.pollLimit = some n → zs.length < n)
    (hzs : ∀ z ∈ zs, z.2 &&& s.params.regMap.mModeReady = 0) (hp : p.2 &&& s.params.regMap.mModeReady ≠ 0) :
    Runs (s.goto (.send dst payload (.t1 .e1))) ([answer x1, answer x2] ++ (zs.map answer ++ [answer p]) ++ [answer c])
      ((s.sendReady x1 x2 p c zs).goto (.send dst payload (.t3 (recipeFirst s.params (configuredPower s))))) := by
  have hmode := runs_mode (s := s) (P := fun l => .send dst payload (.t1 l)) (m := .standby) (x := x1) (y := x2)
    (fun _ _ => rfl) (continues_goto (.send dst payload (.t1w .entered)))
  have hpoll := runs_poll_set (s := s.moded .standby x1 x2) (P := fun h => .send dst payload (.t1w h)) (f := .modeReady)
    (fun _ _ => rfl) hzs (continues_goto (.send dst payload .t2)) hp hbound
  have hclear := takes_write (s := (s.moded .standby x1 x2).pollSet .modeReady zs p) (p := .send dst payload .t2) c rfl
    (fail := State.raise)
    (ok := fun t => t.goto (.send dst payload (.t3 (recipeFirst t.params (configuredPower t))))) fun _ _ _ => rfl
  exact (hmode.trans hpoll).trans hclear.runs

/-- `T3`: the recipe for the configured power. -/
theorem runs_send_power {q : Int} (hq : s.txPower = some q) (ys : List (Byte × Byte)) (hlen : ys.length = 4) :
    Runs (s.goto (.send dst payload (.t3 (recipeFirst s.params (configuredPower s))))) (ys.map answer)
      ((s.carried (writesOf s.params.regMap (recipeWrites s.params q) (ys.map some))).goto (.send dst payload .t4)) := by
  have hrun := runs_recipe (s := s) (p := s.params) (d := q) (P := fun l => .send dst payload (.t3 l))
    (ok := fun t => t.goto (.send dst payload .t4)) (ys := ys.map some) (fun es l y hy => ?_) (by simpa using hlen)
  · have hpower : configuredPower s = q := by simp [configuredPower, hq]
    rw [hpower]
    rwa [List.map_map, answerOrErr_comp_some] at hrun
  · have hpower : configuredPower (s.carried es) = q := by simp [configuredPower, hq]
    have hline := takes_recipe (s := s.carried es) (P := fun l => .send dst payload (.t3 l)) (d := q) (l := l) (y := y)
      (ok := fun t => t.goto (.send dst payload .t4)) (fail := State.raise) (by rw [← hpower]; rfl) (continues_goto _)
      (fun hnone => by simp [hnone] at hy)
    rwa [carried_carried] at hline

/-- `T4` and `T5`: the transmit mapping and the frame. -/
theorem runs_send_push {d : Byte × Byte} {rx : List Byte} (hlen : rx.length = s.txPayload.length + 5) :
    Runs (s.goto (.send dst payload .t4)) [answer d, .board (.ok rx)]
      ((s.carried [writeOf s.params.regMap s.params.regMap.aDioMap s.params.regMap.vDioMapTx d,
        .transfer (frameWN s.params.regMap s.params.regMap.aFifo (sendFrame s)) (some rx)]).goto
          (.send dst payload (.t6 .e1))) := by
  have hmap := takes_write (s := s) (p := .send dst payload .t4) d rfl (fail := State.raise)
    (continues_goto (.send dst payload .t5))
  have hpush (u : State) (hu : rx.length = u.txPayload.length + 5) : Takes (u.goto (.send dst payload .t5)) (.board (.ok rx))
      ((u.carried [.transfer (frameWN u.params.regMap u.params.regMap.aFifo (sendFrame u)) (some rx)]).goto
        (.send dst payload (.t6 .e1))) :=
    takes_line rfl (continues_goto _) fun _ => by
      rw [lineAt, lineSend, complete_burstWriteLine_ok _ _ _ _ _ _ _ (by simpa [sendFrame, fifoBytes] using hu)]
      rfl
  have hpush' := hpush (s.carried [writeOf s.params.regMap s.params.regMap.aDioMap s.params.regMap.vDioMapTx d]) hlen
  rw [carried_carried] at hpush'
  exact Runs.cons hmap hpush'.runs

/-- `T6` to `T7w`: Transmit, the poll, Standby, the poll. -/
theorem runs_send_transmit {x3 x4 p2 x5 x6 p3 : Byte × Byte} {zs2 zs3 : List (Byte × Byte)}
    (hbound2 : ∀ n, s.params.pollLimit = some n → zs2.length < n)
    (hbound3 : ∀ n, s.params.pollLimit = some n → zs3.length < n)
    (hzs2 : ∀ z ∈ zs2, z.2 &&& s.params.regMap.mPacketSent = 0) (hp2 : p2.2 &&& s.params.regMap.mPacketSent ≠ 0)
    (hzs3 : ∀ z ∈ zs3, z.2 &&& s.params.regMap.mModeReady = 0) (hp3 : p3.2 &&& s.params.regMap.mModeReady ≠ 0) :
    Runs (s.goto (.send dst payload (.t6 .e1))) ([answer x3, answer x4] ++ (zs2.map answer ++ [answer p2]) ++
        ([answer x5, answer x6] ++ (zs3.map answer ++ [answer p3])))
      (((((s.moded .transmit x3 x4).pollSet .packetSent zs2 p2).moded .standby x5 x6).pollSet .modeReady zs3 p3).goto
        (.send dst payload (.t7p (recipeFirst s.params s.params.idlePower)))) := by
  have hmode2 := runs_mode (s := s) (P := fun l => .send dst payload (.t6 l)) (m := .transmit) (x := x3) (y := x4)
    (fun _ _ => rfl) (continues_goto (.send dst payload (.t6w .entered)))
  have hpoll2 := runs_poll_set (s := s.moded .transmit x3 x4) (P := fun h => .send dst payload (.t6w h)) (f := .packetSent)
    (fun _ _ => rfl) hzs2 (continues_goto (.send dst payload (.t7 .e1))) hp2 hbound2
  have hmode3 := runs_mode (s := (s.moded .transmit x3 x4).pollSet .packetSent zs2 p2)
    (P := fun l => .send dst payload (.t7 l)) (m := .standby) (x := x5) (y := x6)
    (fun _ _ => rfl) (continues_goto (.send dst payload (.t7w .entered)))
  have hpoll3 := runs_poll_set (s := ((s.moded .transmit x3 x4).pollSet .packetSent zs2 p2).moded .standby x5 x6)
    (P := fun h => .send dst payload (.t7w h)) (f := .modeReady) (fun _ _ => rfl) hzs3
    (ok := fun t => t.goto (.send dst payload (.t7p (recipeFirst t.params t.params.idlePower)))) (fun _ _ _ => rfl) hp3 hbound3
  exact (hmode2.trans hpoll2).trans (hmode3.trans hpoll3)

/-- `T7p`: the recipe for `IDLE_POWER`, the end of `SEND`. -/
theorem runs_send_idlePower (ys : List (Byte × Byte)) (hlen : ys.length = 4) :
    Runs (s.goto (.send dst payload (.t7p (recipeFirst s.params s.params.idlePower)))) (ys.map answer)
      ((s.carried (writesOf s.params.regMap (recipeWrites s.params s.params.idlePower) (ys.map some))).finish []) := by
  have hrun := runs_recipe (s := s) (p := s.params) (d := s.params.idlePower) (P := fun l => .send dst payload (.t7p l))
    (ok := fun t => t.finish []) (ys := ys.map some) (fun es l y hy => ?_) (by simpa using hlen)
  · rwa [List.map_map, answerOrErr_comp_some] at hrun
  · have hline := takes_recipe (s := s.carried es) (P := fun l => .send dst payload (.t7p l)) (d := s.params.idlePower)
      (l := l) (y := y) (ok := fun t => t.finish []) (fail := State.raise) rfl (continues_finish [])
      (fun hnone => by simp [hnone] at hy)
    rwa [carried_carried] at hline

end

/-- Settles O30: the parts of `SEND`, one after the other. -/
theorem sendCompletes : Obligations.SendCompletes := by
  intro s dst payload q x1 x2 x3 x4 x5 x6 p1 p2 p3 c d w1 w2 w3 w4 v1 v2 v3 v4 zs1 zs2 zs3 rx rest r hs hdone hq hpayload
    hbound hzs hp1 hp3 hzs2 hp2 hrx henv
  have hready := runs_send_ready (s := s.latchSend dst payload) (dst := dst) (payload := payload) (x1 := x1) (x2 := x2) (c := c)
    (fun n hn => (hbound n hn).1) (fun z hz => hzs z (List.mem_append_left _ hz)) hp1
  generalize hu : State.sendReady _ _ _ _ _ _ = u at hready
  have hpower := runs_send_power (dst := dst) (payload := payload) (s := u) (q := q) (by simp [← hu, State.sendReady, hq])
    [w1, w2, w3, w4] rfl
  rw [show configuredPower u = configuredPower (s.latchSend dst payload) by rw [← hu]; rfl,
    show u.params = (s.latchSend dst payload).params by rw [← hu]; rfl] at hpower
  generalize hv : State.carried _ u = v at hpower
  have hpush := runs_send_push (dst := dst) (payload := payload) (s := v) (d := d) (rx := rx)
    (by simp [← hv, ← hu, State.sendReady, hrx])
  generalize hw : State.carried _ v = w at hpush
  have hparams : w.params = s.params := by simp [← hw, ← hv, ← hu, State.sendReady]
  have htransmit := runs_send_transmit (dst := dst) (payload := payload) (s := w) (x3 := x3) (x4 := x4) (x5 := x5) (x6 := x6)
    (p2 := p2) (p3 := p3) (zs2 := zs2) (zs3 := zs3) (by simpa [hparams] using fun n hn => (hbound n hn).2.1)
    (by simpa [hparams] using fun n hn => (hbound n hn).2.2) (by simpa [hparams] using hzs2) (by simpa [hparams] using hp2)
    (by simpa [hparams] using fun z hz => hzs z (List.mem_append_right _ hz)) (by simpa [hparams] using hp3)
  generalize hy : State.pollSet _ _ _ (State.moded _ x5 _ _) = y at htransmit
  have hidle := runs_send_idlePower (dst := dst) (payload := payload) (s := y) [v1, v2, v3, v4] rfl
  rw [show y.params = w.params by simp [← hy]] at hidle
  have hrun := (hready.trans hpower).trans ((hpush.trans htransmit).trans hidle)
  have hfits : decide (Config.maxPayload < payload.length) = false := decide_eq_false (Nat.not_lt.mpr hpayload)
  rw [exec_send, issue_ends (rest := rest) hs (by simpa using henv) (fun _ => hdone) hfits rfl hrun rfl]
  congr 1
  apply State.ext <;>
    simp [← hy, ← hw, ← hv, ← hu, State.sendReady, State.carried, State.moded, State.pollSet, State.polled, pollEvents, hs,
      okResponse, answerAfter_writesOf, modeFn, editFn, modeCode, flagAddr, frameWN, sendFrame, fifoBytes, lengthByte,
      Config.headerLen, r]

/-! ### The arm of `RXS` (R210 to R216) -/

theorem exec_rxs (s : State) : exec .rxs s = issue true false (fun t => t.goto (.rxs .a0)) s := rfl

section
variable (s : State)

/-- `A0`. -/
theorem takes_a0 : Takes (s.goto (.rxs .a0)) .tick (s.startRxs.goto (.rxs .a1)) :=
  takes_line rfl (continues_goto _) fun _ => rfl

/-- What follows the read of payload-ready (R212, R213). -/
def afterFlags (v : Byte) (t : State) : State :=
  if flagSet v t.params.regMap.mPayloadReady then (t.latchFlags v).goto (.rxs (.a1r .e1))
  else (t.latchFlags v).goto (.rxs .a2)

theorem continues_afterFlags (v : Byte) : Continues (afterFlags v) := fun u p env =>
  if h : flagSet v u.params.regMap.mPayloadReady then by simp [afterFlags, h]; rfl else by simp [afterFlags, h]; rfl

/-- `A1` answered. -/
theorem takes_a1 (f : Byte × Byte) : Takes (s.goto (.rxs .a1)) (answer f)
    (afterFlags f.2 (s.carried [readOf s.params.regMap s.params.regMap.aPayloadReady f])) :=
  takes_read (okv := afterFlags) (fail := State.raiseRxs) f rfl (continues_afterFlags f.2)

/-- The restart (R213). -/
theorem runs_a1r (u v : Byte × Byte) : Runs (s.goto (.rxs (.a1r .e1))) [answer u, answer v]
    (((s.latchEdit u.2).carried [readOf s.params.regMap s.params.regMap.aPktCfg u,
      writeOf s.params.regMap s.params.regMap.aPktCfg (restartFn s.params.regMap u.2) v]).goto (.rxs .a2)) := by
  have hread := takes_read (s := s) (p := .rxs (.a1r .e1)) u rfl (fail := tryErr (fun t => t.goto (.rxs .a2)) State.raiseRxs)
    (okv := fun v t => (t.latchEdit v).goto (.rxs (.a1r .e2))) fun _ _ _ => rfl
  have hwrite := takes_write (s := (s.latchEdit u.2).carried [readOf s.params.regMap s.params.regMap.aPktCfg u])
    (p := .rxs (.a1r .e2)) v rfl (fail := tryErr (fun t => t.goto (.rxs .a2)) State.raiseRxs) (continues_goto (.rxs .a2))
  exact Runs.cons hread (hwrite.runs.to (by rw [carried_carried]; rfl))

/-- The receiver is armed: the mapping, Receive, the two bias writes (R214 to R216). -/
def State.armed (d x y b1 b2 : Byte × Byte) (s : State) : State :=
  ((s.carried [writeOf s.params.regMap s.params.regMap.aDioMap s.params.regMap.vDioMapRx d]).moded .receive x y).carried
    [writeOf s.params.regMap s.params.regMap.aBias1 s.params.regMap.vBias1Normal b1,
      writeOf s.params.regMap s.params.regMap.aBias2 s.params.regMap.vBias2Normal b2]

/-- `A2` to `A5`. -/
theorem runs_arm (d x y b1 b2 : Byte × Byte) :
    Runs (s.goto (.rxs .a2)) [answer d, answer x, answer y, answer b1, answer b2] ((s.armed d x y b1 b2).goto (.rxs .w2)) := by
  have ha2 := takes_write (s := s) (p := .rxs .a2) d rfl (fail := State.raiseRxs) (continues_goto (.rxs (.a3 .e1)))
  have ha3 (u : State) := runs_mode (s := u) (P := fun l => .rxs (.a3 l)) (m := .receive) (x := x) (y := y) (fun _ _ => rfl)
    (continues_goto (.rxs .a4))
  have ha4 (u : State) := takes_write (s := u) (p := .rxs .a4) b1 rfl
    (fail := tryErr (fun t => t.goto (.rxs .a5)) State.raiseRxs) (continues_goto (.rxs .a5))
  have ha5 (u : State) := takes_write (s := u) (p := .rxs .a5) b2 rfl
    (fail := tryErr (fun t => t.goto (.rxs .w2)) State.raiseRxs) (continues_goto (.rxs .w2))
  refine (ha2.runs.trans ((ha3 _).trans (.cons (ha4 _) (ha5 _).runs))).to ?_
  rw [carried_carried]
  rfl

end

/-- Settles O31: from `A1` with the flag clear to the arm, with the flag set to the restart first. -/
theorem rxsArms : Obligations.RxsArms := by
  intro s f u v d x y b1 b2 rest r arm hs hdone hothers
  have hstart := Runs.cons (takes_a0 s) (takes_a1 s.startRxs f).runs
  refine ⟨fun hf henv => ?clear, fun hf henv => ?set⟩
  case clear =>
    have hclear : flagSet f.2 s.params.regMap.mPayloadReady = false := by simpa [flagSet] using hf
    rw [afterFlags, if_neg (by simpa using hclear)] at hstart
    have hrun := hstart.trans (runs_arm _ d x y b1 b2)
    rw [exec_rxs, issue_runs (rest := rest) hs henv (fun _ => hdone) rfl rfl hrun, drive_othersNext hothers]
    refine congrArg Host.Outcome.next ?_
    apply State.ext <;> simp [State.carried, State.armed, State.moded, modeFn, editFn, modeCode, r, arm]
  case set =>
    have hset : flagSet f.2 s.params.regMap.mPayloadReady = true := by simpa [flagSet] using hf
    rw [afterFlags, if_pos (by simpa using hset)] at hstart
    have hrun := (hstart.trans (runs_a1r _ u v)).trans (runs_arm _ d x y b1 b2)
    rw [exec_rxs, issue_runs (rest := rest) hs henv (fun _ => hdone) rfl rfl hrun, drive_othersNext hothers]
    refine congrArg Host.Outcome.next ?_
    apply State.ext <;> simp [State.carried, State.armed, State.moded, modeFn, editFn, modeCode, restartFn, r, arm]

end Sys2Proof.Machine
end

section
/-! PROOFS of the family `other`: what `WAITF`, `SYNC` and `SETUP` cannot do, whatever turns follow: end well without what they
wait for, or go on for ever (R154, R158, R176). -/

namespace Sys2Proof.Machine

/-! ### What a run adds, as a whole -/

/-- From the record `t` to the record `t'` a list of events with `Q` was added. -/
def Grows (Q : List Event → Prop) (t t' : List Event) : Prop := ∃ es, t' = t ++ es ∧ Q es

@[simp] theorem grows_append_iff {Q : List Event → Prop} {t es : List Event} : Grows Q t (t ++ es) ↔ Q es := by
  constructor
  · rintro ⟨es', hes, hQ⟩
    exact List.append_cancel_left hes ▸ hQ
  · exact fun h => ⟨es, rfl, h⟩

@[simp] theorem grows_self_iff {Q : List Event → Prop} {t : List Event} : Grows Q t t ↔ Q [] := by
  simpa using grows_append_iff (Q := Q) (t := t) (es := [])

/-- What holds of the parts of a list holds of the list. -/
def AppendClosed (Q : List Event → Prop) : Prop := ∀ es es', Q es → Q es' → Q (es ++ es')

theorem Grows.trans {Q : List Event → Prop} (hQ : AppendClosed Q) {t t' t'' : List Event} (h : Grows Q t t')
    (h' : Grows Q t' t'') : Grows Q t t'' := by
  obtain ⟨es, rfl, hes⟩ := h
  obtain ⟨es', rfl, hes'⟩ := h'
  exact ⟨es ++ es', by simp, hQ es es' hes hes'⟩

/-- `Ok` is among the events only together with a read that is good. -/
def OkOnlyAfter (good : Event → Prop) (es : List Event) : Prop :=
  .response [0x00, 0x00] ∈ es → ∃ e ∈ es, good e

theorem okOnlyAfter_appendClosed (good : Event → Prop) : AppendClosed (OkOnlyAfter good) := by
  intro es es' h h' hok
  obtain hmem | hmem := List.mem_append.mp hok
  · obtain ⟨e, he, hgood⟩ := h hmem
    exact ⟨e, List.mem_append_left _ he, hgood⟩
  · obtain ⟨e, he, hgood⟩ := h' hmem
    exact ⟨e, List.mem_append_right _ he, hgood⟩

/-- What is added by no line, by the refusal of a command that comes meanwhile, and by block reset, has `Q` (R258, R291). -/
structure AnyTurn (Q : Params → List Event → Prop) : Prop where
  append : ∀ p, AppendClosed (Q p)
  empty : ∀ p, Q p []
  busy : ∀ p, Q p [.response Err.busy.response]
  note : ∀ p (s : State), Q p s.forgotten

/-- While the operation `i` is in progress, and when it has ended, what was added since `s` has `Q`. -/
def Ongoing (Q : Params → List Event → Prop) (i : Instr) (s u : State) : Prop :=
  u.params = s.params ∧ (∀ q, u.seq = .running q → q.instr = i) ∧ Grows (Q s.params) s.trace u.trace

section
variable {Q : Params → List Event → Prop} (hQ : AnyTurn Q) {i : Instr} {s t : State}
  (hline : ∀ u q, u.seq = .running q → q.instr = i → (lineAt u q).Keeps (fun v => Grows (Q u.params) u.trace v.trace) u)
include hQ hline

theorem ongoing_lineAt {u : State} {q : Pos} (h : Ongoing Q i s u) (hq : u.seq = .running q) :
    (lineAt u q).Keeps (Ongoing Q i s) u := by
  obtain ⟨hparams, hinstr, hgrows⟩ := h
  have hi := hinstr q hq
  refine ((within_lineAt u q).and (hline u q hq hi)).mono fun v ⟨⟨houtside, hnext⟩, hadds⟩ => ⟨?_, ?_, ?_⟩
  · exact (params_of_outside houtside).trans hparams
  · exact hi ▸ hnext
  · exact hgrows.trans (hQ.append _) (hparams ▸ hadds)

/-- What each line of an operation adds has `Q`: so has what a run of its lines adds. -/
theorem grows_of_drive (hs : ∀ q, s.seq = .running q → q.instr = i) (ts : List Turn) :
    Grows (Q s.params) s.trace (drive ts s).trace :=
  (drive_lines_keep (P := Ongoing Q i s) (fun _ _ hu => hu) (fun _ _ hu hq => ongoing_lineAt hQ hline hu hq) ts s
    ⟨rfl, hs, grows_self_iff.mpr (hQ.empty _)⟩).2.2

/-- So has what a step, or a run of lines, from one of them adds. -/
theorem grows_of_goesOnTo {p : Pos} (hs : s.seq = .running p) (hp : p.instr = i) (h : s.goesOnTo t) :
    Grows (Q s.params) s.trace t.trace := by
  have hinstr : ∀ q, s.seq = .running q → q.instr = i := fun q hq => by
    rw [hs] at hq
    exact Seq.running.inj hq ▸ hp
  have hself : Ongoing Q i s s := ⟨rfl, hinstr, grows_self_iff.mpr (hQ.empty _)⟩
  obtain hstep | rfl := h
  · refine (step_running_keeps (P := Ongoing Q i s) hs hself (fun _ _ hu => hu) (fun _ => ?busy) (fun _ => ?irq)
      (fun rest _ => ?reset) (fun _ _ hu hq => ongoing_lineAt hQ hline hu hq) hstep).2.2
    case busy => exact ⟨rfl, hinstr, grows_append_iff.mpr (hQ.busy _)⟩
    case irq => rw [irqRise_eq]; exact hself
    case reset => exact ⟨rfl, fun q hq => (Seq.noConfusion hq), grows_append_iff.mpr (hQ.note _ _)⟩
  · exact grows_of_drive hQ hline hinstr s.env

end

/-! ### `WAITF` (R176) -/

/-- A read of the flag's register that shows the flag set. -/
def ShowsSet (r : RegMap) (f : Flag) (e : Event) : Prop :=
  ∃ x : Byte × Byte, x.2 &&& flagMask r f ≠ 0 ∧ e = readOf r (flagAddr r f) x

/-- `Ok` only after a read that shows the flag set, `PollTimeout` only with a bound. -/
def PollsHonestly (f : Flag) (p : Params) (es : List Event) : Prop :=
  OkOnlyAfter (ShowsSet p.regMap f) es ∧ (p.pollLimit = none → ∀ info, .response [0x06, info] ∉ es)

theorem anyTurn_pollsHonestly (f : Flag) : AnyTurn (PollsHonestly f) where
  append p es es' h h' := by
    refine ⟨okOnlyAfter_appendClosed _ es es' h.1 h'.1, fun hlimit info hmem => ?_⟩
    exact (List.mem_append.mp hmem).elim (h.2 hlimit info) (h'.2 hlimit info)
  empty p := ⟨fun h => by simp at h, fun _ _ h => by simp at h⟩
  busy p := by simp [PollsHonestly, OkOnlyAfter, Err.response, Err.code]
  note p s := ⟨fun h => absurd h (forgotten_no_response s _), fun _ info => forgotten_no_response s _⟩

theorem pollsHonestly_lineWaitf (u : State) (f : Flag) (h : LoopHead) :
    (lineWaitf u f h).Keeps (fun v => Grows (PollsHonestly f u.params) u.trace v.trace) u := by
  have hbefore (w : State) : (h.before State.startPoll w).trace = w.trace ∧ (h.before State.startPoll w).params = w.params := by
    cases h <;> exact ⟨rfl, rfl⟩
  rw [lineWaitf, keeps_pollLine]
  refine ⟨fun x v => ⟨fun hset => ?set, fun _ hlimit => ?timeout, fun _ _ => ?again⟩, ?failed⟩
  case set =>
    have hshows : ShowsSet u.params.regMap f (readOf u.params.regMap (flagAddr u.params.regMap f) (x, v)) :=
      ⟨(x, v), by simpa [flagSet] using hset, rfl⟩
    refine ⟨[readOf _ _ (x, v), .response [0x00, 0x00]], ?_, fun _ => ⟨_, List.mem_cons_self .., hshows⟩, by simp [readOf]⟩
    simp [hbefore, readOf, okResponse]
  case timeout =>
    have hbound : u.params.pollLimit ≠ none := by
      rw [(hbefore _).2] at hlimit
      simp only [State.transact_params] at hlimit
      rw [hlimit]
      exact Option.some_ne_none _
    simp [hbefore, PollsHonestly, OkOnlyAfter, hbound]
  case again => simp [hbefore, PollsHonestly, OkOnlyAfter]
  case failed => simp [hbefore, PollsHonestly, OkOnlyAfter]

/-- Settles O29: the one read of a line decides, and other turns answer neither. -/
theorem waitfNeverEndsUnset : Obligations.WaitfNeverEndsUnset := by
  intro s t f h
  have hline (u : State) (q : Pos) (_ : u.seq = .running q) (hq : q.instr = .waitf f) :
      (lineAt u q).Keeps (fun v => Grows (PollsHonestly f u.params) u.trace v.trace) u := by
    cases q with
    | waitf f' h' => cases hq; exact pollsHonestly_lineWaitf u f h'
    | _ => cases hq
  have hgrows : Grows (PollsHonestly f s.params) s.trace t.trace := by
    obtain ⟨hs, hexec⟩ | ⟨⟨h, hs⟩, hgo⟩ := h
    · rw [exec_waitf, issue_accepted hs (by simp) rfl] at hexec
      cases hexec
      exact grows_of_drive (s := s.goto (.waitf f .entered)) (anyTurn_pollsHonestly f) hline
        (fun q hq => by cases hq; rfl) s.env
    · exact grows_of_goesOnTo (anyTurn_pollsHonestly f) hline hs rfl hgo
  obtain ⟨es, htrace, hok, htimeout⟩ := hgrows
  refine ⟨es, htrace, fun hmem => ?_, htimeout⟩
  obtain ⟨_, he, x, hx, rfl⟩ := hok hmem
  exact ⟨x, hx, he⟩

/-! ### `SYNC` (R154) -/

/-- A read of `A_SYNC` that returned the sentinel. -/
def ReadsSentinel (r : RegMap) (sentinel : Byte) (e : Event) : Prop :=
  ∃ x : Byte × Byte, x.2 = sentinel ∧ e = readOf r r.aSync x

/-- `Ok` only after a read that returned the sentinel. -/
def SyncsHonestly (sentinel : Byte) (p : Params) (es : List Event) : Prop := OkOnlyAfter (ReadsSentinel p.regMap sentinel) es

theorem anyTurn_syncsHonestly (sentinel : Byte) : AnyTurn (SyncsHonestly sentinel) where
  append p := okOnlyAfter_appendClosed _
  empty p := fun h => by simp at h
  busy p := by simp [SyncsHonestly, OkOnlyAfter, Err.response, Err.code]
  note p s := fun h => absurd h (forgotten_no_response s _)

theorem syncsHonestly_lineSync (u : State) (sentinel : Byte) (l : SyncLine) :
    (lineSync u sentinel l).Keeps (fun v => Grows (SyncsHonestly sentinel u.params) u.trace v.trace) u := by
  cases l with
  | y1 h =>
    have hbefore (w : State) : (h.before State.startSync w).trace = w.trace := by cases h <;> rfl
    rw [lineSync, keeps_syncLine_y1]
    refine ⟨fun x => ?hit, fun x v _ => ?miss, ?failed⟩
    case hit =>
      have hread : ReadsSentinel u.params.regMap sentinel (readOf u.params.regMap u.params.regMap.aSync (x, sentinel)) :=
        ⟨(x, sentinel), rfl, rfl⟩
      refine ⟨[readOf _ _ (x, sentinel), .response [0x00, 0x00]], ?_, fun _ => ⟨_, List.mem_cons_self .., hread⟩⟩
      simp [hbefore, readOf, okResponse]
    case miss => simp [hbefore, SyncsHonestly, OkOnlyAfter]
    case failed => simp [hbefore, SyncsHonestly, OkOnlyAfter]
  | y2 =>
    have hne : [0#8, 0#8] ≠ (Err.notSyncing sentinel).response := (err_response_ne_ok _ _).symm
    simp [lineSync, SyncsHonestly, OkOnlyAfter, hne]

/-- The entries a phase can still make from a line on: two for each attempt left, and the answer (R154). -/
def syncLeft (attempt : Nat) : SyncLine → Nat
  | .y1 .entered => 31
  | .y1 .repeated => 33 - 2 * attempt
  | .y2 => 32 - 2 * attempt

/-- The record holds at most `n` entries, those that `SYNC` can still make counted with it. -/
def SyncWithin (sentinel : Byte) (n : Nat) (u : State) : Prop :=
  (∃ l, u.seq = .running (.sync sentinel l) ∧ u.attemptInBound l ∧ u.trace.length + syncLeft u.attempt l ≤ n) ∨
  (u.seq = .idle ∧ u.trace.length ≤ n)

section
variable {sentinel : Byte} {n : Nat} {u : State}

@[simp] theorem syncWithin_goto_iff {l : SyncLine} : SyncWithin sentinel n (u.goto (.sync sentinel l)) ↔
    u.attemptInBound l ∧ u.trace.length + syncLeft u.attempt l ≤ n := by
  constructor
  · rintro (⟨l', hl, hbound, hlen⟩ | ⟨hidle, -⟩)
    · cases hl
      exact ⟨hbound, hlen⟩
    · cases hidle
  · exact fun ⟨hbound, hlen⟩ => .inl ⟨l, rfl, hbound, hlen⟩

theorem syncWithin_idle_iff (hs : u.seq = .idle) : SyncWithin sentinel n u ↔ u.trace.length ≤ n := by
  simp [SyncWithin, hs]

@[simp] theorem syncWithin_finish_iff {value : List Byte} :
    SyncWithin sentinel n (u.finish value) ↔ u.trace.length + 1 ≤ n := by
  rw [syncWithin_idle_iff rfl]
  simp

@[simp] theorem syncWithin_raise_iff {e : Err} : SyncWithin sentinel n (u.raise e) ↔ u.trace.length + 1 ≤ n := by
  rw [syncWithin_idle_iff rfl]
  simp

theorem syncWithin_lineSync {l : SyncLine} (hbound : u.attemptInBound l)
    (hlen : u.trace.length + syncLeft u.attempt l ≤ n) : (lineSync u sentinel l).Keeps (SyncWithin sentinel n) u := by
  cases l with
  | y1 h =>
    cases h with
    | entered =>
      simp only [syncLeft] at hlen
      simp [lineSync, attemptInBound_startSync, syncLeft]
      exact ⟨by omega, fun _ _ => by omega, by omega⟩
    | repeated =>
      have hattempt := hbound (by simp)
      simp only [syncLeft] at hlen
      simp [lineSync, attemptInBound_y2 hbound, syncLeft]
      exact ⟨by omega, fun _ _ => by omega, by omega⟩
  | y2 =>
    have hattempt := hbound (by simp)
    simp only [syncLeft] at hlen
    simp +contextual [lineSync, attemptInBound_countAttempt hbound, syncLeft]
    omega

/-- From a line of `SYNC` a run of lines adds no more entries than are left there. -/
theorem length_drive_sync {l : SyncLine} (hs : u.seq = .running (.sync sentinel l)) (hbound : u.attemptInBound l)
    (ts : List Turn) : (drive ts u).trace.length ≤ u.trace.length + syncLeft u.attempt l := by
  have hwithin : SyncWithin sentinel (u.trace.length + syncLeft u.attempt l) (drive ts u) := by
    refine drive_lines_keep (P := SyncWithin sentinel (u.trace.length + syncLeft u.attempt l)) (fun _ _ hv => hv)
      (fun v q hv hq => ?_) ts u (.inl ⟨l, hs, hbound, le_rfl⟩)
    obtain ⟨l', hl', hbound', hlen'⟩ | ⟨hidle, -⟩ := hv
    · rw [hq] at hl'
      cases hl'
      exact syncWithin_lineSync hbound' hlen'
    · rw [hidle] at hq
      cases hq
  obtain ⟨l', -, -, hlen⟩ | ⟨-, hlen⟩ := hwithin <;> omega

/-- One step from a line of `SYNC` adds at most two entries. -/
theorem length_step_sync {t : State} {l : SyncLine} (hs : u.seq = .running (.sync sentinel l)) (h : step u = .next t) :
    t.trace.length ≤ u.trace.length + 2 := by
  refine step_keeps (P := fun v => v.trace.length ≤ u.trace.length + 2) h (fun _ => by simp) (fun _ _ => by simp)
    (fun _ _ _ _ _ _ hidle => by rw [hs] at hidle; cases hidle) (fun _ => by rw [irqRise_eq]; simp)
    (fun rest _ => ?reset) fun q ts hq => ?line
  case reset =>
    have hnote : (u.withEnv rest).forgotten.length ≤ 1 := by
      rw [State.forgotten]
      split
      · simp
      · unfold Line.forgotten
        split <;> simp
    simpa [State.blockReset] using hnote.trans (by simp)
  case line =>
    rw [hs] at hq
    cases hq
    cases l with
    | y1 h => cases h <;> simp [lineAt, lineSync]
    | y2 => simp [lineAt, lineSync]

/-- Either adds no more entries than are left at that line. -/
theorem length_goesOnTo_sync {t : State} {l : SyncLine} (hs : u.seq = .running (.sync sentinel l))
    (hbound : u.attemptInBound l) (h : u.goesOnTo t) : t.trace.length ≤ u.trace.length + syncLeft u.attempt l := by
  obtain hstep | rfl := h
  · have htwo : 2 ≤ syncLeft u.attempt l := by
      cases l with
      | y1 h =>
        cases h with
        | entered => simp [syncLeft]
        | repeated =>
          have hattempt := hbound (by simp)
          simp only [syncLeft]
          omega
      | y2 =>
        have hattempt := hbound (by simp)
        simp only [syncLeft]
        omega
    exact (length_step_sync hs hstep).trans (by omega)
  · exact length_drive_sync hs hbound u.env

end

/-- Beyond the first `Y1` an attempt has begun (R154). -/
theorem syncLeft_inside {attempt : Nat} {l : SyncLine} (hl : l ≠ .y1 .entered) (hattempt : attempt ≤ 15) :
    syncLeft attempt l + 2 * attempt ≤ 33 := by
  cases l with
  | y1 h =>
    cases h with
    | entered => exact absurd rfl hl
    | repeated => simp only [syncLeft]; omega
  | y2 => simp only [syncLeft]; omega

theorem readsSentinel_of_ok {sentinel : Byte} {p : Params} {es : List Event} (h : SyncsHonestly sentinel p es)
    (hok : .response [0x00, 0x00] ∈ es) : ∃ x : Byte × Byte, x.2 = sentinel ∧ readOf p.regMap p.regMap.aSync x ∈ es := by
  obtain ⟨_, he, x, hx, rfl⟩ := h hok
  exact ⟨x, hx, he⟩

/-- Settles O19: the one read of `Y1` decides, and each attempt uses up what is left of the bound. -/
theorem syncNeverPassesSilently : Obligations.SyncNeverPassesSilently := by
  intro s t sentinel h
  have hline (u : State) (q : Pos) (_ : u.seq = .running q) (hq : q.instr = .sync sentinel) :
      (lineAt u q).Keeps (fun v => Grows (SyncsHonestly sentinel u.params) u.trace v.trace) u := by
    cases q with
    | sync _ l => cases hq; exact syncsHonestly_lineSync u sentinel l
    | _ => cases hq
  obtain ⟨hs, hexec⟩ | ⟨⟨l, hs⟩, hgo⟩ := h
  · rw [exec_sync, issue_accepted hs (by simp) rfl] at hexec
    cases hexec
    obtain ⟨es, htrace, hok⟩ := grows_of_drive (s := s.goto (.sync sentinel (.y1 .entered))) (anyTurn_syncsHonestly sentinel)
      hline (fun q hq => by cases hq; rfl) s.env
    have hlen := length_drive_sync (u := s.goto (.sync sentinel (.y1 .entered))) rfl (attemptInBound_entered _) s.env
    rw [htrace, List.length_append, State.goto_trace, syncLeft] at hlen
    refine ⟨es, htrace, readsSentinel_of_ok hok, fun _ => by omega, fun hrun => ?_, fun ⟨l, _, hrun⟩ => ?_⟩ <;>
      simp [hs] at hrun
  · obtain ⟨es, htrace, hok⟩ := grows_of_goesOnTo (anyTurn_syncsHonestly sentinel) hline hs rfl hgo
    refine ⟨es, htrace, readsSentinel_of_ok hok, fun hidle => ?idle, fun hrun => ?entered,
      fun ⟨l', hl', hrun⟩ hinv => ?inside⟩
    case idle =>
      rw [hs] at hidle
      cases hidle
    case entered =>
      have hlen := length_goesOnTo_sync hrun (attemptInBound_entered s) hgo
      rw [htrace, List.length_append, syncLeft] at hlen
      omega
    case inside =>
      have hbound : s.attemptInBound l' := hinv.position _ hrun
      have hlen := length_goesOnTo_sync hrun hbound hgo
      have hleft := syncLeft_inside hl' (hbound hl').2
      rw [htrace, List.length_append] at hlen
      omega

end Sys2Proof.Machine
end

section
/-! PROOFS of the family `other`: a `SETUP` that has ended is done, or has failed (R158, R24). -/

namespace Sys2Proof.Machine

/-- What of the registers decides how `SETUP` ends from a line (R24, R131): `setup_done` is 0 from the first line of the pulse on,
and the power is stored from the first line of the recipe on. -/
def State.settingUp (u : State) : SetupLine → Prop
  | .s1 l => l ≠ .p1 → u.setupDone = false
  | .s2 _ | .s3 _ | .s4 => u.setupDone = false
  | .s5 l => u.setupDone = false ∧ (l.isFirst = false → u.txPower = some (clampPower u.params.initialPower))

/-- The invariant says more. -/
theorem settingUp_of_setupOk {u : State} {cfg : List (Byte × Byte)} {l : SetupLine} (h : u.setupOk cfg l) : u.settingUp l := by
  cases l with
  | s1 l => exact h.2
  | s2 l | s3 l | s4 => exact h.1
  | s5 l => exact h

/-- Since `s`, `SETUP` stands at a line of its own, or has ended, well or with an error (R158). -/
def SettingUp (cfg : List (Byte × Byte)) (s u : State) : Prop :=
  u.params = s.params ∧
    ((∃ l, u.seq = .running (.setup cfg l) ∧ u.settingUp l ∧ s.trace <+: u.trace) ∨
     (u.seq = .idle ∧ ∃ t, s.trace <+: t ∧
       ((u.setupDone = true ∧ u.txPower = some (clampPower u.params.initialPower) ∧
          u.trace = t ++ [.response (okResponse [])]) ∨
        (u.setupDone = false ∧ ∃ e : Err, u.trace = t ++ [.response e.response]))))

section
variable {cfg : List (Byte × Byte)} {s u : State}

@[simp] theorem settingUp_goto_iff {l : SetupLine} : SettingUp cfg s (u.goto (.setup cfg l)) ↔
    u.params = s.params ∧ u.settingUp l ∧ s.trace <+: u.trace := by
  have hgoto : (u.goto (.setup cfg l)).settingUp l ↔ u.settingUp l := by cases l <;> rfl
  constructor
  · rintro ⟨hparams, ⟨l', hl, hregs, htrace⟩ | ⟨hidle, -⟩⟩
    · cases hl
      exact ⟨hparams, hgoto.mp hregs, htrace⟩
    · cases hidle
  · exact fun ⟨hparams, hregs, htrace⟩ => ⟨hparams, .inl ⟨l, rfl, hgoto.mpr hregs, htrace⟩⟩

@[simp] theorem settingUp_raiseSetup_iff {e : Err} : SettingUp cfg s (u.raiseSetup e) ↔
    u.params = s.params ∧ u.setupDone = false ∧ s.trace <+: u.trace := by
  constructor
  · rintro ⟨hparams, ⟨l, hl, -⟩ | ⟨-, t, ht, ⟨-, -, htrace⟩ | ⟨hdone, e', htrace⟩⟩⟩
    · cases hl
    · have hresponse := List.append_inj_right' htrace rfl
      simp [okResponse] at hresponse
    · obtain rfl : u.trace = t := List.append_inj_left' htrace rfl
      exact ⟨hparams, hdone, ht⟩
  · exact fun ⟨hparams, hdone, htrace⟩ => ⟨hparams, .inr ⟨rfl, u.trace, htrace, .inr ⟨hdone, e, rfl⟩⟩⟩

@[simp] theorem settingUp_finishSetup_iff : SettingUp cfg s u.finishSetup ↔
    u.params = s.params ∧ u.txPower = some (clampPower u.params.initialPower) ∧ s.trace <+: u.trace := by
  constructor
  · rintro ⟨hparams, ⟨l, hl, -⟩ | ⟨-, t, ht, ⟨-, hpower, htrace⟩ | ⟨hdone, -⟩⟩⟩
    · cases hl
    · obtain rfl : u.trace = t := List.append_inj_left' htrace rfl
      exact ⟨hparams, hpower, ht⟩
    · cases hdone
  · exact fun ⟨hparams, hpower, htrace⟩ => ⟨hparams, .inr ⟨rfl, u.trace, htrace, .inl ⟨rfl, hpower, rfl⟩⟩⟩

theorem settingUp_lineSetup {l : SetupLine} (hparams : u.params = s.params) (hregs : u.settingUp l)
    (htrace : s.trace <+: u.trace) : (lineSetup u cfg l).Keeps (SettingUp cfg s) u := by
  have hmore (es : List Event) : s.trace <+: u.trace ++ es := htrace.trans (List.prefix_append ..)
  cases l with
  | s1 l =>
    cases l with
    | p1 => simp [lineSetup, State.settingUp, hparams, hmore]
    | p2 | p3 | p4 =>
      have hdone := hregs (by simp)
      simp [lineSetup, State.settingUp, hparams, hmore, hdone]
  | s2 l =>
    have hdone : u.setupDone = false := hregs
    cases l with
    | y1 h => cases h <;> simp [lineSetup, State.settingUp, hparams, hmore, hdone]
    | y2 => simp [lineSetup, State.settingUp, hparams, hmore, hdone]
  | s3 l =>
    have hdone : u.setupDone = false := hregs
    cases l with
    | y1 h => cases h <;> simp [State.gotoPower, State.settingUp, hparams, hmore, hdone]
    | y2 => simp [lineSetup, State.settingUp, hparams, hmore, hdone]
  | s4 =>
    have hdone : u.setupDone = false := hregs
    simp [State.gotoPower, State.settingUp, hparams, hmore, hdone]
  | s5 l =>
    obtain ⟨hdone, hpower⟩ := hregs
    have hstored (tx : List Byte) (ans : Answer) : (storeFirst u.params.initialPower l (u.transact tx ans)).txPower =
        some (clampPower u.params.initialPower) := storeFirst_txPower hpower
    rw [hparams] at hstored
    cases l <;>
      simp [lineSetup, State.settingUp, RecipeLine.advance, RecipeLine.next, hstored, hparams, hmore, hdone]

/-- What stands at a line of `SETUP`, or has ended, keeps so by a line. -/
theorem settingUp_lineAt {q : Pos} (h : SettingUp cfg s u) (hq : u.seq = .running q) :
    (lineAt u q).Keeps (SettingUp cfg s) u := by
  obtain ⟨hparams, ⟨l, hl, hregs, htrace⟩ | ⟨hidle, -⟩⟩ := h
  · rw [hq] at hl
    cases hl
    exact settingUp_lineSetup hparams hregs htrace
  · rw [hidle] at hq
    cases hq

end

/-- The turns to come decide nothing. -/
theorem SettingUp.withEnv {cfg : List (Byte × Byte)} {s u : State} (h : SettingUp cfg s u) (ts : List Turn) :
    SettingUp cfg s (u.withEnv ts) := by
  obtain ⟨hparams, ⟨l, hl, hregs, htrace⟩ | hidle⟩ := h
  · refine ⟨hparams, .inl ⟨l, hl, ?_, htrace⟩⟩
    cases l <;> exact hregs
  · exact ⟨hparams, .inr hidle⟩

/-- Settles O22: the registers that decide the end fit every line on the way. -/
theorem setupEndsDoneOrFailed : Obligations.SetupEndsDoneOrFailed := by
  intro s t cfg h hidle
  have hend : SettingUp cfg s t := by
    obtain ⟨hs, hexec⟩ | ⟨hinv, ⟨l, hs⟩, hreset, hgo⟩ := h
    · rw [exec_setup, issue_accepted hs (by simp) rfl] at hexec
      cases hexec
      refine drive_lines_keep (fun _ ts hu => hu.withEnv ts) (fun _ _ hu hq => settingUp_lineAt hu hq) s.env _ ?_
      simp [State.settingUp]
    · have hregs : s.settingUp l := settingUp_of_setupOk (cfg := cfg) (hinv.position _ hs)
      have hself : SettingUp cfg s s := ⟨rfl, .inl ⟨l, hs, hregs, List.prefix_rfl⟩⟩
      obtain hstep | rfl := hgo
      · refine step_running_keeps hs hself (fun _ ts hu => hu.withEnv ts) (fun rest => ?busy) (fun rest => ?irq)
          (fun rest henv => absurd henv (hreset rest)) (fun _ _ hu hq => settingUp_lineAt hu hq) hstep
        case busy =>
          refine ⟨rfl, .inl ⟨l, hs, ?_, List.prefix_append ..⟩⟩
          cases l <;> exact hregs
        case irq =>
          rw [irqRise_eq]
          refine ⟨rfl, .inl ⟨l, hs, ?_, List.prefix_rfl⟩⟩
          cases l <;> exact hregs
      · exact drive_lines_keep (fun _ ts hu => hu.withEnv ts) (fun _ _ hu hq => settingUp_lineAt hu hq) s.env _ hself
  obtain ⟨hparams, ⟨l, hl, -⟩ | ⟨-, _, ⟨es, rfl⟩, ⟨hdone, hpower, htrace⟩ | ⟨hdone, e, htrace⟩⟩⟩ := hend
  · rw [hidle] at hl
    cases hl
  · exact .inl ⟨hdone, by rw [hpower, hparams, clampPower_eq_max_min], es, htrace⟩
  · exact .inr ⟨hdone, es, e.code, e.info, code_ne_zero e, htrace⟩

end Sys2Proof.Machine
end
